-- ==== Sys2Proof/Word.lean ====
section
/-! DEFINITION. The word types of MMIP-CORE and nothing else: registers are 32 bits wide, the width and
height fields 16, samples, channel fields and table entries 8 (spec/00_scope.md R10, spec/10_state.md R35). -/

namespace Sys2Proof

/-- A sample of a buffer, one byte of pixel memory, one table entry (R10: "sample width 8 bits, unsigned"). -/
abbrev Byte := BitVec 8

/-- A width or height field (R10: 16 bits). -/
abbrev Half := BitVec 16

/-- A register, a bus data word, a pixel offset, a command word (R10, R35, R120: 32 bits). -/
abbrev Word := BitVec 32

end Sys2Proof
end

