-- ==== Sys2Proof/Machine/Errors.lean ====
section
/-! DEFINITION. The command errors with their codes and information values (spec/60_exceptions.md R280, R281). -/

namespace Sys2Proof.Machine

/-- The dimension field an INVALID_DIMENSION names (R281). -/
inductive DimField where
  | srcW
  | srcH
  | srcC
  | dstW
  | dstH
  deriving DecidableEq, Repr

/-- The region a REGION_OVERFLOW names (R281). -/
inductive Region where
  | source
  | destination
  deriving DecidableEq, Repr

/-- The coordinate an ADDR_RANGE names (R281). -/
inductive Coordinate where
  | x
  | y
  | channel
  deriving DecidableEq, Repr

/-- The errors a command can complete with (R280). -/
inductive CmdError where
  | invalidDimension (f : DimField)
  | unknownOperation (word : Word)
  | lutNotLoaded (index : Nat)
  | regionOverflow (r : Region)
  | aliased
  | addrRange (c : Coordinate)
  deriving DecidableEq, Repr

/-- STATUS.ERR_CODE of an error (R280). -/
def CmdError.code : CmdError → Byte
  | .invalidDimension _ => 0x01
  | .unknownOperation _ => 0x02
  | .lutNotLoaded _ => 0x03
  | .regionOverflow _ => 0x04
  | .aliased => 0x05
  | .addrRange _ => 0x06

/-- ERR_INFO of an error (R281). -/
def CmdError.info : CmdError → Word
  | .invalidDimension .srcW => 1
  | .invalidDimension .srcH => 2
  | .invalidDimension .srcC => 3
  | .invalidDimension .dstW => 4
  | .invalidDimension .dstH => 5
  | .unknownOperation word => word
  | .lutNotLoaded index => BitVec.ofNat 32 index
  | .regionOverflow .source => 1
  | .regionOverflow .destination => 2
  | .aliased => 0
  | .addrRange .x => 1
  | .addrRange .y => 2
  | .addrRange .channel => 3

end Sys2Proof.Machine
end

