-- ==== Sys2Proof/Config.lean ====
section
/-! DEFINITION. The implementation parameters of spec/00_scope.md R9 that a rule of the block reads, as one
record of plain data, and the values the spec leaves free. `REG_BASE`, `PIX_BASE` and `HOST_BUS` are the
platform's: a transaction reaches the block as (space, offset, size, direction, data) (R126), so no rule reads
them. `T_CMD` is the place of the engine's turn among the host's (Machine/Port.lean, log entry 5). -/

namespace Sys2Proof

/-- The parameters of R9. Each is OPEN in the spec; log entry 1. -/
structure Config where
  /-- The highest offset of pixel memory, so that `PIX_BYTES = lastOffset + 1` takes exactly the values
  1 .. 2^32 that R9 allows. -/
  lastOffset : BitVec 32
  /-- `initPix`, the power-on contents of pixel memory (R9, R90, R313): the byte of each offset in order.
  Every function from the offsets to bytes is such a list; an offset past the list's end holds 0. -/
  initPix : List Byte
  /-- `initLUT`, the contents of the LUT RAM after any reset (R9, R60). -/
  initLut : Vector Byte 256
  deriving DecidableEq, Repr, Inhabited

namespace Config

/-- `PIX_BYTES`, the size of pixel memory in bytes (R9: 1 <= PIX_BYTES <= 2^32). -/
def pixBytes (c : Config) : Nat := c.lastOffset.toNat + 1

/-- The configuration of the machine `State.reset` describes: a value with no body, so that nothing can be
proved from a choice of it (R9; log entry 1). -/
opaque platform : Config

/-- The unspecified byte that a hard reset during a buffer-producing command leaves at a pixel offset
(spec/70_reset_and_hazards.md R312; spec/93_implementation_defined.md U5). The first argument is the number of
such resets so far (`State.draws`), the second the offset. FREE VALUE, log entry 4. -/
opaque scrambledByte : Nat → Nat → Byte

end Config

end Sys2Proof
end

