-- ==== Sys2Proof/Machine/Port.lean ====
section
/-! DEFINITION. What crosses the block's ports (spec/40_host_port.md R140) as plain data: the host's
transactions, the block's responses, and the turns in which the agents of spec/20_memory.md R104 and R105 move. -/

namespace Sys2Proof.Machine

/-- The two address spaces a transaction can name (R90, R91). -/
inductive Space where
  | reg
  | pix
  deriving DecidableEq, Repr

/-- The size a host request carries (R140: "size (1, 2 or 4 bytes)"). -/
inductive AccessSize where
  | one
  | two
  | four
  deriving DecidableEq, Repr

/-- Read, or write with 32 bits of write data (R140). -/
inductive Access where
  | read
  | write (data : Word)
  deriving DecidableEq, Repr

/-- One host transaction, the tuple (space, offset, size, direction, data) of spec/30_encoding.md R126. -/
structure BusRequest where
  space  : Space
  offset : Word
  size   : AccessSize
  access : Access
  deriving DecidableEq, Repr

/-- One response (R140: "response (OKAY or ERROR), read data 32"). -/
inductive BusResponse where
  /-- OKAY to a read, with its data. -/
  | okayRead (data : Word)
  /-- OKAY to a write. -/
  | okayWrite
  /-- ERROR, whose read data is 0 (R146). -/
  | error
  deriving DecidableEq, Repr

/-- What the outside world and the engine do next, one turn a step (R105: "each step being one host transaction
or one command completion (or a reset)"). The order of the turns is an input: it stands for the platform's
serialization (R104) and for the open duration `T_CMD` (R162). Log entry 5. -/
inductive Turn where
  /-- The host issues a transaction. -/
  | host (r : BusRequest)
  /-- The command engine may take its step `complete` (R161). -/
  | engine
  /-- A write of `data` to STATUS that falls in the same step as a completion (R40, R287). -/
  | statusWriteAtCompletion (data : Word)
  /-- `rst_n` is asserted and released (R310). -/
  | hardReset
  deriving DecidableEq, Repr

/-- The number of bytes of an access size. -/
def AccessSize.bytes : AccessSize → Nat
  | .one => 1
  | .two => 2
  | .four => 4

end Sys2Proof.Machine
end

