-- ==== Sys2Proof/Machine/State.lean ====
section
/-! DEFINITION. The machine's state as plain data: every field of spec/10_state.md R64, the held host transaction
of R63, and, marked as the model's own, the configuration and the inputs and outputs of the ports. -/

namespace Sys2Proof.Machine

/-- Reasons to stop with a fault. There is none: a command error is a way a command completes
(spec/60_exceptions.md R288), a bus error is a response (R284), and no arithmetic exception exists (R283). Safe: no
step of the model stops. -/
inductive Fault where
  deriving DecidableEq, Repr

/-- Reasons to refuse an instruction. -/
inductive Refusal where
  /-- Raised by an arm of `exec` whose instruction has no meaning yet. No arm is left so, and nothing raises it.
  Safe: a refusal proves nothing about the block. -/
  | notModelled (mnemonic : String)
  deriving DecidableEq, Repr

/-- Pixel memory (R90): the bytes that differ from what an unlisted offset reads as, offsets rising
(`Memory.wf` in Machine/Ops.lean). -/
abbrev Memory := List Host.Cell

/-- The state of the block. -/
structure State where
  /-- CTRL.IRQ_EN (R38). -/
  ctrlIrqEn : Bool
  /-- STATUS.BUSY, the command-engine flag (R30, R40). -/
  busy : Bool
  /-- STATUS.DONE (R40). -/
  done : Bool
  /-- STATUS.ERR (R40). -/
  err : Bool
  /-- STATUS.WIGN (R40). -/
  wign : Bool
  /-- STATUS.ERR_CODE (R40, R280). -/
  errCode : Byte
  /-- CMD_LAST, the accepted command word (R41). -/
  cmdLast : Word
  /-- ERR_INFO (R42). -/
  errInfo : Word
  /-- SRC_BASE, SRC_W, SRC_H, SRC_C, the source descriptor (R44). -/
  srcBase : Word
  srcW : Half
  srcH : Half
  srcC : Byte
  /-- DST_BASE, DST_W, DST_H (R45). -/
  dstBase : Word
  dstW : Half
  dstH : Half
  /-- OUT_W, OUT_H, OUT_C (R46). -/
  outW : Half
  outH : Half
  outC : Byte
  /-- GAMMA, signed Q16.16 (R47). -/
  gamma : Word
  /-- LUT_INDEX (R61). -/
  lutIndex : Byte
  /-- The LUT RAM (R60). -/
  lut : Vector Byte 256
  /-- The LUT valid bits V (R60). -/
  lutValid : Vector Bool 256
  /-- PBA_X, PBA_Y (signed), PBA_CH (R48). -/
  pbaX : Word
  pbaY : Word
  pbaCh : Byte
  /-- PBA_ADDR, PBA_DATA (R48). -/
  pbaAddr : Word
  pbaData : Byte
  /-- CMD_COUNT (R56). -/
  cmdCount : Word
  /-- Pixel memory (R90). -/
  pix : Memory
  /-- The host pixel transaction held while BUSY = 1 (R63, R147). -/
  held : Option BusRequest
  /-- MODEL'S OWN: the turns still to come, oldest first; the input of the machine (log entry 5). -/
  turns : List Turn
  /-- MODEL'S OWN: the responses given so far, oldest first; the output of the host port (R140, log entry 6). -/
  responses : List BusResponse
  /-- MODEL'S OWN: how many hard resets have scrambled a destination region; numbers the free values of R312
  (log entry 4). -/
  draws : Nat
  /-- MODEL'S OWN: the configuration of R9, which no step changes (log entry 1). -/
  cfg : Config
  deriving DecidableEq, Repr

/-- The state at the release of the power-on reset in a configuration (R310, R313): every register at its reset
value of R36, no valid bit set, `initLUT` in the LUT RAM, `initPix` in pixel memory (nothing listed). -/
def State.powerOn (c : Config) : State where
  ctrlIrqEn := false
  busy := false
  done := false
  err := false
  wign := false
  errCode := 0
  cmdLast := 0
  errInfo := 0
  srcBase := 0
  srcW := 0
  srcH := 0
  srcC := 0
  dstBase := 0
  dstW := 0
  dstH := 0
  outW := 0
  outH := 0
  outC := 0
  gamma := 0x00010000
  lutIndex := 0
  lut := c.initLut
  lutValid := Vector.replicate 256 false
  pbaX := 0
  pbaY := 0
  pbaCh := 0
  pbaAddr := 0
  pbaData := 0
  cmdCount := 0
  pix := []
  held := none
  turns := []
  responses := []
  draws := 0
  cfg := c

/-- The machine right after power-on, in the configuration nothing is known of. -/
def State.reset : State := State.powerOn Config.platform

end Sys2Proof.Machine
end

