-- ==== Sys2Proof/Machine/Ops.lean ====
section
/-! DEFINITION. The shared operations: exact arithmetic (spec/00_scope.md R12), pixel memory
(spec/20_memory.md), the LUT RAM (spec/10_state.md R60 to R62), the address function
(spec/42_pixel_buffer_addresser.md), and the two ways a command completes
(spec/41_command_control.md R163). -/

namespace Sys2Proof.Machine

/-! ## Exact arithmetic (R12) -/

/-- `fdiv(n, d)`: rounds toward minus infinity, for d > 0. -/
def fdiv (n d : Int) : Int := n / d

/-- `fmod(n, d) = n - d*fdiv(n, d)`. -/
def fmod (n d : Int) : Int := n - d * fdiv n d

/-- `rhu(n, d)`: n/d rounded to the nearest integer, a half upward. -/
def rhu (n d : Nat) : Nat := (2 * n + d) / (2 * d)

/-- `clamp(v, lo, hi)`. -/
def clamp (v lo hi : Int) : Int := if v < lo then lo else if v > hi then hi else v

/-! ## Pixel memory (R90): one byte -/

/-- What an offset not listed in memory reads as: `initPix` of the offset (R90, R313). -/
def unlistedByte (c : Config) (a : Nat) : Byte := c.initPix.getD a 0

/-- The listed byte at an offset, if there is one. -/
def memLookup (a : Nat) : Memory → Option Byte
  | [] => none
  | (b, v) :: m => if b = a then some v else memLookup a m

/-- The byte at an offset. -/
def memRead (c : Config) (m : Memory) (a : Nat) : Byte := (memLookup a m).getD (unlistedByte c a)

/-- Memory without an entry for the offset. -/
def memErase (a : Nat) : Memory → Memory
  | [] => []
  | (b, v) :: m => if b = a then memErase a m else (b, v) :: memErase a m

/-- Memory with an entry for the offset, the offsets still rising. -/
def memInsert (a : Nat) (v : Byte) : Memory → Memory
  | [] => [(a, v)]
  | (b, w) :: m =>
    if a < b then (a, v) :: (b, w) :: m
    else if a = b then (a, v) :: m
    else (b, w) :: memInsert a v m

/-- `MemWrite(a, 1, v)` (R13): an entry equal to what the unlisted offset reads as is removed, so that equal
memories are equal data. -/
def memWrite (c : Config) (a : Nat) (v : Byte) (m : Memory) : Memory :=
  if v = unlistedByte c a then memErase a m else memInsert a v m

/-- The offsets of a memory rise strictly and lie above `lo`. -/
def memRising (lo : Nat) : Memory → Bool
  | [] => true
  | (a, _) :: m => decide (lo ≤ a) && memRising (a + 1) m

/-- The canonical form of pixel memory: offsets strictly rising, each below `PIX_BYTES` (R90: "an offset >=
PIX_BYTES names no byte"), and no entry equal to what its offset reads as unlisted. -/
def Memory.wf (c : Config) (m : Memory) : Bool :=
  memRising 0 m && m.all (fun e => decide (e.1 < c.pixBytes) && e.2 != unlistedByte c e.1)

/-- The bytes `f 0, ..., f (n-1)` written at `base, ..., base + n - 1`. -/
def fillRegion (c : Config) (base : Nat) (f : Nat → Byte) : Nat → Memory → Memory
  | 0, m => m
  | n + 1, m => memWrite c (base + n) (f n) (fillRegion c base f n m)

/-- `MemRead(a, 1)` in a state. -/
def State.readPix (s : State) (a : Nat) : Byte := memRead s.cfg s.pix a

/-- `MemWrite(a, 1, v)` in a state. -/
def State.writePix (s : State) (a : Nat) (v : Byte) : State := { s with pix := memWrite s.cfg a v s.pix }

/-! ## Pixel memory: four bytes, little-endian (R94) -/

/-- The word whose bits [7:0], [15:8], [23:16], [31:24] are the bytes at a, a+1, a+2, a+3. -/
def State.readPix32 (s : State) (a : Nat) : Word :=
  s.readPix (a + 3) ++ s.readPix (a + 2) ++ s.readPix (a + 1) ++ s.readPix a

/-- Byte k of a word. -/
def byteOfWord (d : Word) (k : Nat) : Byte := d.extractLsb' (8 * k) 8

/-- The four bytes of a word written at a, a+1, a+2, a+3, in one step (R151). -/
def State.writePix32 (s : State) (a : Nat) (d : Word) : State :=
  { s with pix := fillRegion s.cfg a (byteOfWord d) 4 s.pix }

/-! ## The LUT RAM (R60) -/

/-- `LUT[b]`. -/
def State.lutAt (s : State) (b : Byte) : Byte := s.lut[b.toNat]'b.isLt

/-- `LUT[i] <- v; V[i] <- 1` (R62). -/
def State.setLut (s : State) (i v : Byte) : State :=
  { s with lut := s.lut.set i.toNat v i.isLt, lutValid := s.lutValid.set i.toNat true i.isLt }

/-- The table whose entry r is `f r`. Irreducible so that no proof unfolds its 256 entries; `tableOf_get` in
Laws/Table.lean is what a proof cites. -/
@[irreducible] def tableOf (f : Nat → Byte) : Vector Byte 256 := Vector.ofFn (fun r => f r.val)

/-- Valid bits all 1. -/
def allValid : Vector Bool 256 := Vector.replicate 256 true

/-- The common effect of a build command with mapping f (spec/44_intensity_transform_lut.md R220):
`for r in 0..255: LUT[r] <- f(r); V[r] <- 1`. -/
def State.buildLut (s : State) (f : Nat → Byte) : State :=
  { s with lut := tableOf f, lutValid := allValid }

/-- The lowest index whose valid bit is 0, if there is one (R171). -/
def State.lowestInvalid (s : State) : Option Nat := s.lutValid.toList.findIdx? (fun v => v == false)

/-! ## Buffer descriptors and addresses (spec/42_pixel_buffer_addresser.md) -/

/-- A buffer descriptor `(base, w, h, c)` (R14). -/
structure Desc where
  base : Nat
  w : Nat
  h : Nat
  c : Nat
  deriving DecidableEq, Repr

/-- The buffer's size in bytes, `w*h*c` (R14), on unbounded integers. -/
def Desc.size (d : Desc) : Nat := d.w * d.h * d.c

/-- `addr(base, w, h, c, x, y, ch)` (R190). -/
def Desc.addr (d : Desc) (x y ch : Nat) : Nat := d.base + (y * d.w + x) * d.c + ch

/-- The region fits in pixel memory (R101). -/
def Desc.fits (c : Config) (d : Desc) : Bool := decide (d.base + d.size ≤ c.pixBytes)

/-- Two regions share a byte (R102). -/
def Desc.overlaps (d e : Desc) : Bool := decide (d.base < e.base + e.size) && decide (e.base < d.base + d.size)

/-- The clamped sampling primitive (R192): edge replication. -/
def State.clampedAt (s : State) (d : Desc) (x y : Int) (ch : Nat) : Byte :=
  s.readPix (d.addr (clamp x 0 (d.w - 1)).toNat (clamp y 0 (d.h - 1)).toNat ch)

/-- A buffer written whole: the sample at (x, y, ch) is `f x y ch`. Byte i of the region is the sample of the triple
that R191's bijection sends to i; the order of the writes is unobservable (R106), since `f` reads the state at
completion. -/
def State.writeBuffer (s : State) (d : Desc) (f : Nat → Nat → Nat → Byte) : State :=
  { s with pix := fillRegion s.cfg d.base (fun i => f (i / d.c % d.w) (i / d.c / d.w) (i % d.c)) d.size s.pix }

/-- The output descriptor registers (R46). -/
def State.setOut (s : State) (w h : Half) (c : Byte) : State := { s with outW := w, outH := h, outC := c }

/-! ## Completion (R163) -/

/-- The end of a command without error. -/
def State.completeOk (s : State) : State :=
  { s with errCode := 0, errInfo := 0, done := true, cmdCount := s.cmdCount + 1, busy := false }

/-- The end of a command with an error: the error "entry" of spec/60_exceptions.md R288. There is no vector, no saved
register and no mode; ERR_CODE, ERR_INFO and ERR record it, and DONE stays as it was (R173). -/
def State.completeError (s : State) (e : CmdError) : State :=
  { s with errCode := e.code, errInfo := e.info, err := true, cmdCount := s.cmdCount + 1, busy := false }

/-- `issue(d)` (R160): the word is accepted, and nothing else happens. -/
def State.issue (s : State) (d : Word) : State := { s with cmdLast := d, busy := true }

/-- The turns still to come. -/
def State.setTurns (s : State) (ts : List Turn) : State := { s with turns := ts }

/-- The host transaction held (R147). -/
def State.setHeld (s : State) (h : Option BusRequest) : State := { s with held := h }

/-- A response is given to the host (R140: one per request, in request order). -/
def State.respond (s : State) (r : BusResponse) : State := { s with responses := s.responses ++ [r] }

end Sys2Proof.Machine
end

