-- ==== Sys2Proof/Syntax.lean ====
section
/-! DEFINITION. The ten command words of spec/opcode_table.json (spec/30_encoding.md R123). No command carries
an operand: every operand is read from a fixed register at completion (R122). -/

namespace Sys2Proof

/-- One constructor per row of the opcode table. -/
inductive Instr where
  /-- `NOP` (R170). -/
  | nop
  /-- `LUT.NEG`, build the negative table (R222). -/
  | lutNeg
  /-- `LUT.LOG`, build the logarithm table (R223). -/
  | lutLog
  /-- `LUT.GAMMA`, build the gamma table (R224). -/
  | lutGamma
  /-- `LUT.APPLY`, map a buffer through the table (R226). -/
  | lutApply
  /-- `GRAY`, grayscale reduction (R211). -/
  | gray
  /-- `RS.NEAREST`, nearest-neighbour resampling (R253). -/
  | rsNearest
  /-- `RS.BILINEAR`, bilinear resampling (R257). -/
  | rsBilinear
  /-- `ADDR.RAW`, `sampleAt` (R194). -/
  | addrRaw
  /-- `ADDR.CLAMP`, the clamped sampling primitive (R195). -/
  | addrClamp
  deriving DecidableEq, Repr

end Sys2Proof
end

