-- ==== Sys2Proof/Machine/Operands.lean ====
section
/-! DEFINITION. The operands of the commands: each is read from a fixed register at completion
(spec/30_encoding.md R122). -/

namespace Sys2Proof.Machine

/-- The source descriptor `(SRC_BASE, SRC_W, SRC_H, SRC_C)` (R14, R44), fields zero-extended (R122). -/
def State.source (s : State) : Desc :=
  { base := s.srcBase.toNat, w := s.srcW.toNat, h := s.srcH.toNat, c := s.srcC.toNat }

/-- The destination descriptor of LUT.APPLY, `(DST_BASE, W, H, C)` (R14, R226). -/
def State.applyDestination (s : State) : Desc :=
  { base := s.dstBase.toNat, w := s.srcW.toNat, h := s.srcH.toNat, c := s.srcC.toNat }

/-- The destination descriptor of GRAY, `(DST_BASE, W, H, 1)` (R14, R211). -/
def State.grayDestination (s : State) : Desc :=
  { base := s.dstBase.toNat, w := s.srcW.toNat, h := s.srcH.toNat, c := 1 }

/-- The destination descriptor of both resampling commands, `(DST_BASE, OW, OH, C)` (R14, R250). -/
def State.resampleDestination (s : State) : Desc :=
  { base := s.dstBase.toNat, w := s.dstW.toNat, h := s.dstH.toNat, c := s.srcC.toNat }

/-- The buffer a command writes, none for a command that writes no buffer (R168: "V6 applies to"). -/
def State.destination (s : State) : Instr → Option Desc
  | .lutApply => some s.applyDestination
  | .gray => some s.grayDestination
  | .rsNearest => some s.resampleDestination
  | .rsBilinear => some s.resampleDestination
  | .nop | .lutNeg | .lutLog | .lutGamma => none
  | .addrRaw | .addrClamp => none

/-- The gamma exponent as a fraction p/q in lowest terms (R224, R225): `k = sext_32(GAMMA)` over 65536 for k > 0, and 1
for k <= 0, the substitution that R47 quotes. -/
def State.gammaExponent (s : State) : Nat × Nat :=
  if 0 < s.gamma.toInt then
    (s.gamma.toInt.toNat / Nat.gcd s.gamma.toInt.toNat 65536, 65536 / Nat.gcd s.gamma.toInt.toNat 65536)
  else (1, 1)

/-- `X = sext_32(PBA_X)` (R194). -/
def State.coordX (s : State) : Int := s.pbaX.toInt

/-- `Y = sext_32(PBA_Y)` (R194). -/
def State.coordY (s : State) : Int := s.pbaY.toInt

/-- `CH = zext_8(PBA_CH)` (R194). -/
def State.coordCh (s : State) : Nat := s.pbaCh.toNat

end Sys2Proof.Machine
end

