-- ==== Sys2Proof/Machine/Validate.lean ====
section
/-! DEFINITION. The checks V2 to V8 in their order (spec/41_command_control.md R164). V1, a defined command word, is
the decoder's (R165, Machine/Engine.lean). -/

namespace Sys2Proof.Machine

/-- V2, V5 apply to these commands (R164): those that read the source descriptor. -/
def usesSource : Instr → Bool
  | .lutApply | .gray | .rsNearest | .rsBilinear | .addrRaw | .addrClamp => true
  | .nop | .lutNeg | .lutLog | .lutGamma => false

/-- V3 applies to these commands (R164): those that read DST_W and DST_H. -/
def usesTargetDims : Instr → Bool
  | .rsNearest | .rsBilinear => true
  | .nop | .lutNeg | .lutLog | .lutGamma | .lutApply | .gray | .addrRaw | .addrClamp => false

/-- V4 applies to these commands (R164): those that read the LUT. -/
def usesTable : Instr → Bool
  | .lutApply => true
  | .nop | .lutNeg | .lutLog | .lutGamma | .gray | .rsNearest | .rsBilinear | .addrRaw | .addrClamp => false

/-- V2, source dimensions (R166). -/
def checkSourceDims (s : State) : Option CmdError :=
  if s.srcW = 0 then some (.invalidDimension .srcW)
  else if s.srcH = 0 then some (.invalidDimension .srcH)
  else if s.srcC ≠ 1 ∧ s.srcC ≠ 3 then some (.invalidDimension .srcC)
  else none

/-- V3, destination dimensions (R167). -/
def checkTargetDims (s : State) : Option CmdError :=
  if s.dstW = 0 then some (.invalidDimension .dstW)
  else if s.dstH = 0 then some (.invalidDimension .dstH)
  else none

/-- V4, LUT fully loaded (R171). -/
def checkTable (s : State) : Option CmdError := s.lowestInvalid.map .lutNotLoaded

/-- V5, the source region fits (R168). -/
def checkSourceFits (s : State) : Option CmdError :=
  if s.source.fits s.cfg then none else some (.regionOverflow .source)

/-- V6, the destination region fits (R168). -/
def checkDestinationFits (i : Instr) (s : State) : Option CmdError :=
  match s.destination i with
  | some d => if d.fits s.cfg then none else some (.regionOverflow .destination)
  | none => none

/-- V7, source and destination do not overlap (R169). -/
def checkOverlap (i : Instr) (s : State) : Option CmdError :=
  match s.destination i with
  | some d => if s.source.overlaps d then some .aliased else none
  | none => none

/-- V8 for ADDR.RAW (R172, R194). -/
def checkRawCoordinates (s : State) : Option CmdError :=
  if s.coordX < 0 ∨ s.coordX ≥ s.source.w then some (.addrRange .x)
  else if s.coordY < 0 ∨ s.coordY ≥ s.source.h then some (.addrRange .y)
  else if s.coordCh ≥ s.source.c then some (.addrRange .channel)
  else none

/-- V8 for ADDR.CLAMP (R172, R195): only the channel is checked. -/
def checkClampCoordinates (s : State) : Option CmdError :=
  if s.coordCh ≥ s.source.c then some (.addrRange .channel) else none

/-- V8, coordinate range (R172). -/
def checkCoordinates (i : Instr) (s : State) : Option CmdError :=
  match i with
  | .addrRaw => checkRawCoordinates s
  | .addrClamp => checkClampCoordinates s
  | .nop | .lutNeg | .lutLog | .lutGamma | .lutApply | .gray | .rsNearest | .rsBilinear => none

/-- A check that does not apply to the command is skipped (R164). -/
def whenApplies (b : Bool) (r : Option CmdError) : Option CmdError := if b then r else none

/-- The first error of a list of checks. -/
def firstError : List (Option CmdError) → Option CmdError
  | [] => none
  | some e :: _ => some e
  | none :: rest => firstError rest

/-- `validate(cmd)` for a defined command: the first error of V2 to V8 (R164), `none` for OK. -/
def validate (i : Instr) (s : State) : Option CmdError :=
  firstError
    [ whenApplies (usesSource i) (checkSourceDims s),
      whenApplies (usesTargetDims i) (checkTargetDims s),
      whenApplies (usesTable i) (checkTable s),
      whenApplies (usesSource i) (checkSourceFits s),
      checkDestinationFits i s,
      checkOverlap i s,
      checkCoordinates i s ]

/-- The completion of a defined command (R163): an error completion when `validate` finds one, else the command's own
effect and a completion without error, all in one step. -/
def runCommand (i : Instr) (perform : State → State) (s : State) : State :=
  match validate i s with
  | some e => s.completeError e
  | none => (perform s).completeOk

end Sys2Proof.Machine
end

