-- ==== Sys2Proof/Machine/Addresser.lean ====
section
/-! DEFINITION. The pixel_buffer_addresser's two commands (spec/42_pixel_buffer_addresser.md R194, R195). Neither writes
pixel memory, the LUT or OUT_* (R196). -/

namespace Sys2Proof.Machine

/-- `PBA_ADDR <- a; PBA_DATA <- MemRead(a, 1)` (R194, R195). An address of a region that fits is below 2^32 (R191). -/
def State.setPba (s : State) (a : Nat) : State :=
  { s with pbaAddr := BitVec.ofNat 32 a, pbaData := s.readPix a }

/-- The address ADDR.RAW forms from in-range coordinates (R194). -/
def rawAddress (s : State) : Nat := s.source.addr s.coordX.toNat s.coordY.toNat s.coordCh

/-- The address ADDR.CLAMP forms: X and Y clamped to the edges, the channel not (R195). -/
def clampAddress (s : State) : Nat :=
  s.source.addr (clamp s.coordX 0 (s.source.w - 1)).toNat (clamp s.coordY 0 (s.source.h - 1)).toNat s.coordCh

/-- The effect of ADDR.RAW after its checks (R194). -/
def performAddrRaw (s : State) : State := s.setPba (rawAddress s)

/-- The effect of ADDR.CLAMP after its checks (R195). -/
def performAddrClamp (s : State) : State := s.setPba (clampAddress s)

/-- ADDR.RAW (R194). -/
def execAddrRaw (s : State) : Host.Outcome State Fault Refusal := .next (runCommand .addrRaw performAddrRaw s)

/-- ADDR.CLAMP (R195). -/
def execAddrClamp (s : State) : Host.Outcome State Fault Refusal := .next (runCommand .addrClamp performAddrClamp s)

end Sys2Proof.Machine
end

