-- ==== Sys2Proof/Machine/Control.lean ====
section
/-! DEFINITION. NOP (spec/41_command_control.md R170). -/

namespace Sys2Proof.Machine

/-- `perform(NOP) = skip` (R170). -/
def performNop (s : State) : State := s

/-- NOP (R170). -/
def execNop (s : State) : Host.Outcome State Fault Refusal := .next (runCommand .nop performNop s)

end Sys2Proof.Machine
end

