-- ==== Sys2Proof/Machine/Grayscale.lean ====
section
/-! DEFINITION. GRAY (spec/43_grayscale.md R210, R211). -/

namespace Sys2Proof.Machine

/-- `luma(R, G, B) = rhu(299*R + 587*G + 114*B, 1000)` (R210). -/
def luma (r g b : Nat) : Nat := rhu (299 * r + 587 * g + 114 * b) 1000

/-- The destination sample of GRAY at (x, y): a copy for C = 1, the luma of the triple otherwise, when C = 3 (R211). -/
def graySample (s : State) (x y : Nat) : Byte :=
  if s.source.c = 1 then s.readPix (s.source.addr x y 0)
  else
    BitVec.ofNat 8
      (luma (s.readPix (s.source.addr x y 0)).toNat (s.readPix (s.source.addr x y 1)).toNat
        (s.readPix (s.source.addr x y 2)).toNat)

/-- The effect of GRAY after its checks (R211). -/
def performGray (s : State) : State :=
  (s.writeBuffer s.grayDestination (fun x y _ => graySample s x y)).setOut s.srcW s.srcH 1

/-- GRAY (R211). -/
def execGray (s : State) : Host.Outcome State Fault Refusal := .next (runCommand .gray performGray s)

end Sys2Proof.Machine
end

