-- ==== Sys2Proof/Machine/IntensityLut.lean ====
section
/-! DEFINITION. The intensity_transform_lut unit: the three build commands and LUT.APPLY
(spec/44_intensity_transform_lut.md R220 to R226). -/

namespace Sys2Proof.Machine

/-! ## The mappings -/

/-- `f(r) = 255 - r` (R222). -/
def negEntry (r : Nat) : Byte := BitVec.ofNat 8 (255 - r)

/-- The table of R223, "normative; a model may use it in place of the formula", 16 entries a line. -/
def logTable : List Nat :=
  [0, 32, 51, 64, 74, 82, 89, 96, 101, 106, 110, 114, 118, 121, 125, 128] ++
  [130, 133, 135, 138, 140, 142, 144, 146, 148, 150, 152, 153, 155, 156, 158, 159] ++
  [161, 162, 163, 165, 166, 167, 168, 170, 171, 172, 173, 174, 175, 176, 177, 178] ++
  [179, 180, 181, 182, 183, 183, 184, 185, 186, 187, 188, 188, 189, 190, 191, 191] ++
  [192, 193, 193, 194, 195, 195, 196, 197, 197, 198, 199, 199, 200, 200, 201, 202] ++
  [202, 203, 203, 204, 204, 205, 205, 206, 206, 207, 207, 208, 208, 209, 209, 210] ++
  [210, 211, 211, 212, 212, 213, 213, 214, 214, 214, 215, 215, 216, 216, 217, 217] ++
  [217, 218, 218, 219, 219, 219, 220, 220, 221, 221, 221, 222, 222, 222, 223, 223] ++
  [223, 224, 224, 225, 225, 225, 226, 226, 226, 227, 227, 227, 228, 228, 228, 229] ++
  [229, 229, 229, 230, 230, 230, 231, 231, 231, 232, 232, 232, 233, 233, 233, 233] ++
  [234, 234, 234, 235, 235, 235, 235, 236, 236, 236, 236, 237, 237, 237, 238, 238] ++
  [238, 238, 239, 239, 239, 239, 240, 240, 240, 240, 241, 241, 241, 241, 242, 242] ++
  [242, 242, 242, 243, 243, 243, 243, 244, 244, 244, 244, 245, 245, 245, 245, 245] ++
  [246, 246, 246, 246, 247, 247, 247, 247, 247, 248, 248, 248, 248, 248, 249, 249] ++
  [249, 249, 249, 250, 250, 250, 250, 250, 251, 251, 251, 251, 251, 252, 252, 252] ++
  [252, 252, 253, 253, 253, 253, 253, 254, 254, 254, 254, 254, 254, 255, 255, 255]

/-- The logarithm entry `f(r) = floor(255 * log_256(1 + r) + 1/2)`, from the table (R223). -/
def logEntry (r : Nat) : Byte := BitVec.ofNat 8 (logTable.getD r 0)

/-- The comparison of R225, `r^p * 510^q >= (2n - 1)^q * 255^p`, on unbounded naturals. The list names precisions at
which it is tried first: with m = floor(2^k * p/q) the exponents m and m + 1 over 2^k bracket p/q, and small powers
settle it unless the two sides are very close. `gammaReaches_iff` in Laws/Gamma.lean proves that the precisions do
not matter: the answer is always that of the last line. -/
def gammaCompare (p q r n : Nat) : List Nat → Bool
  | [] => decide ((2 * n - 1) ^ q * 255 ^ p ≤ r ^ p * 510 ^ q)
  | k :: ks =>
    if r ^ (p * 2 ^ k / q) * 510 ^ 2 ^ k < (2 * n - 1) ^ 2 ^ k * 255 ^ (p * 2 ^ k / q) then false
    else if (2 * n - 1) ^ 2 ^ k * 255 ^ (p * 2 ^ k / q + 1) ≤ r ^ (p * 2 ^ k / q + 1) * 510 ^ 2 ^ k then true
    else gammaCompare p q r n ks

/-- The condition of R225 on n (the condition `255*(r/255)^g + 1/2 >= n`, raised to the power q). -/
def gammaReaches (p q r n : Nat) : Bool := gammaCompare p q r n [0, 4, 8, 12]

/-- The largest n below `acc + 2^bits` that satisfies a condition which holds up to some n and not above it, found from
the highest bit down, given that `acc` is 0 or satisfies it. -/
def largestBelow (cond : Nat → Bool) : Nat → Nat → Nat
  | 0, acc => acc
  | bits + 1, acc =>
    if cond (acc + 2 ^ bits) then largestBelow cond bits (acc + 2 ^ bits) else largestBelow cond bits acc

/-- The gamma entry for the exponent p/q (R224, R225): f(0) = 0, and for r in 1..255 the largest n in 0..255 such that
n = 0 or the comparison of R225 holds. -/
def gammaValue (p q r : Nat) : Nat := if r = 0 then 0 else largestBelow (gammaReaches p q r) 8 0

/-- The gamma entry as a table byte. -/
def gammaEntry (e : Nat × Nat) (r : Nat) : Byte := BitVec.ofNat 8 (gammaValue e.1 e.2 r)

/-! ## The commands -/

/-- The effect of LUT.NEG (R220, R222). -/
def performLutNeg (s : State) : State := s.buildLut negEntry

/-- The effect of LUT.LOG (R220, R223). -/
def performLutLog (s : State) : State := s.buildLut logEntry

/-- The effect of LUT.GAMMA (R220, R224): GAMMA is read at completion, and no flag records the substitution. -/
def performLutGamma (s : State) : State := s.buildLut (gammaEntry s.gammaExponent)

/-- The effect of LUT.APPLY after its checks (R226): every sample of every channel goes through the one table. -/
def performLutApply (s : State) : State :=
  (s.writeBuffer s.applyDestination (fun x y ch => s.lutAt (s.readPix (s.source.addr x y ch)))).setOut
    s.srcW s.srcH s.srcC

/-- LUT.NEG (R222). -/
def execLutNeg (s : State) : Host.Outcome State Fault Refusal := .next (runCommand .lutNeg performLutNeg s)

/-- LUT.LOG (R223). -/
def execLutLog (s : State) : Host.Outcome State Fault Refusal := .next (runCommand .lutLog performLutLog s)

/-- LUT.GAMMA (R224). -/
def execLutGamma (s : State) : Host.Outcome State Fault Refusal := .next (runCommand .lutGamma performLutGamma s)

/-- LUT.APPLY (R226). -/
def execLutApply (s : State) : Host.Outcome State Fault Refusal := .next (runCommand .lutApply performLutApply s)

end Sys2Proof.Machine
end

