-- ==== Sys2Proof/Machine/Resampler.lean ====
section
/-! DEFINITION. The bilinear_resampler unit: RS.NEAREST and RS.BILINEAR (spec/45_resampler.md R250 to R258). -/

namespace Sys2Proof.Machine

/-- `nsrc(i, N, ON) = clamp(fdiv(2*i*N + ON, 2*ON), 0, N - 1)` (R251). -/
def nsrc (i n out : Nat) : Nat := (clamp (fdiv (2 * i * n + out) (2 * out)) 0 (n - 1)).toNat

/-- The destination sample of RS.NEAREST: a copy of one source sample of the same channel (R253). -/
def nearestSample (s : State) (ow oh x y ch : Nat) : Byte :=
  s.readPix (s.source.addr (nsrc x s.source.w ow) (nsrc y s.source.h oh) ch)

/-- The bilinear axis decomposition `(i0, a, Dn)` (R254). -/
structure Axis where
  i0 : Int
  a : Nat
  dn : Nat
  deriving DecidableEq, Repr

/-- The decomposition for output index i, source size N, output size ON (R254): `Nn = (2*i + 1)*N - ON`, `Dn = 2*ON`,
`i0 = fdiv(Nn, Dn)`, `a = fmod(Nn, Dn)`. -/
def axis (i n out : Nat) : Axis :=
  { i0 := fdiv ((2 * i + 1) * n - out) (2 * out)
    a := (fmod ((2 * i + 1) * n - out) (2 * out)).toNat
    dn := 2 * out }

/-- The accumulator of R257 and R258: four samples under integer weights, exact. -/
def bilinearAcc (ax ay : Axis) (i00 i10 i01 i11 : Nat) : Nat :=
  (ax.dn - ax.a) * (ay.dn - ay.a) * i00 + ax.a * (ay.dn - ay.a) * i10 + (ax.dn - ax.a) * ay.a * i01 +
    ax.a * ay.a * i11

/-- `s <- clamp(rhu(ACC, D), 0, 255)` with `D = Dx*Dy` (R257): the only rounding. -/
def bilinearRound (ax ay : Axis) (acc : Nat) : Nat := (clamp (rhu acc (ax.dn * ay.dn)) 0 255).toNat

/-- The destination sample of RS.BILINEAR: four neighbours through the clamped primitive, accumulated and rounded once
(R257). -/
def bilinearSample (s : State) (ow oh x y ch : Nat) : Byte :=
  BitVec.ofNat 8
    (bilinearRound (axis x s.source.w ow) (axis y s.source.h oh)
      (bilinearAcc (axis x s.source.w ow) (axis y s.source.h oh)
        (s.clampedAt s.source (axis x s.source.w ow).i0 (axis y s.source.h oh).i0 ch).toNat
        (s.clampedAt s.source ((axis x s.source.w ow).i0 + 1) (axis y s.source.h oh).i0 ch).toNat
        (s.clampedAt s.source (axis x s.source.w ow).i0 ((axis y s.source.h oh).i0 + 1) ch).toNat
        (s.clampedAt s.source ((axis x s.source.w ow).i0 + 1) ((axis y s.source.h oh).i0 + 1) ch).toNat))

/-- The effect of RS.NEAREST after its checks (R253). -/
def performRsNearest (s : State) : State :=
  (s.writeBuffer s.resampleDestination (nearestSample s s.dstW.toNat s.dstH.toNat)).setOut s.dstW s.dstH s.srcC

/-- The effect of RS.BILINEAR after its checks (R257). -/
def performRsBilinear (s : State) : State :=
  (s.writeBuffer s.resampleDestination (bilinearSample s s.dstW.toNat s.dstH.toNat)).setOut s.dstW s.dstH s.srcC

/-- RS.NEAREST (R253). -/
def execRsNearest (s : State) : Host.Outcome State Fault Refusal := .next (runCommand .rsNearest performRsNearest s)

/-- RS.BILINEAR (R257). -/
def execRsBilinear (s : State) : Host.Outcome State Fault Refusal :=
  .next (runCommand .rsBilinear performRsBilinear s)

end Sys2Proof.Machine
end

