-- ==== Sys2Proof/Machine/Dispatch.lean ====
section
/-! DEFINITION. One arm per command word: its completion step (spec/41_command_control.md R163). -/

namespace Sys2Proof.Machine

def exec (i : Instr) (s : State) : Host.Outcome State Fault Refusal :=
  match i with
  | .nop => Sys2Proof.Machine.execNop s
  | .lutNeg => Sys2Proof.Machine.execLutNeg s
  | .lutLog => Sys2Proof.Machine.execLutLog s
  | .lutGamma => Sys2Proof.Machine.execLutGamma s
  | .lutApply => Sys2Proof.Machine.execLutApply s
  | .gray => Sys2Proof.Machine.execGray s
  | .rsNearest => Sys2Proof.Machine.execRsNearest s
  | .rsBilinear => Sys2Proof.Machine.execRsBilinear s
  | .addrRaw => Sys2Proof.Machine.execAddrRaw s
  | .addrClamp => Sys2Proof.Machine.execAddrClamp s

end Sys2Proof.Machine
end

