-- ==== Sys2Proof/Machine/Flags.lean ====
section
/-! DEFINITION. The STATUS flags and the interrupt output (spec/10_state.md R40, R43). The block has no arithmetic
condition codes (R33). -/

namespace Sys2Proof.Machine

/-- STATUS.LUT_VALID: 1 exactly when all 256 valid bits are 1 (R40, R60). -/
def State.lutAllValid (s : State) : Bool := s.lutValid.toList.all (fun v => v)

/-- A flag as one bit of a register. -/
def flagBit (b : Bool) : BitVec 1 := BitVec.ofBool b

/-- What STATUS reads (spec/40_host_port.md R141):
`{16'b0, err_code[7:0], 3'b0, LUT_VALID, wign, err, done, busy}`. -/
def State.statusWord (s : State) : Word :=
  0#16 ++ s.errCode ++ 0#3 ++ flagBit s.lutAllValid ++ flagBit s.wign ++ flagBit s.err ++ flagBit s.done ++
    flagBit s.busy

/-- A STATUS write clears each of DONE, ERR, WIGN whose written bit is 1 and changes nothing else (R40, R142). -/
def State.clearStatus (s : State) (d : Word) : State :=
  { s with
    done := s.done && !d.getLsbD 1
    err := s.err && !d.getLsbD 2
    wign := s.wign && !d.getLsbD 3 }

/-- An ignored register write sets WIGN (R144). -/
def State.raiseWign (s : State) : State := { s with wign := true }

/-- What CTRL reads: IRQ_EN in bit 1, SRST reads 0 (R36, R39). -/
def State.ctrlWord (s : State) : Word := 0#30 ++ flagBit s.ctrlIrqEn ++ 0#1

/-- The interrupt output, a level (R43). -/
def State.irq (s : State) : Bool := s.ctrlIrqEn && (s.done || s.err)

end Sys2Proof.Machine
end

