-- ==== Sys2Proof/Machine/Registers.lean ====
section
/-! DEFINITION. The register map (spec/10_state.md R36) and the value a read of each register returns
(spec/40_host_port.md R141). -/

namespace Sys2Proof.Machine

/-- The named registers of R36. -/
inductive RegName where
  | id
  | version
  | ctrl
  | status
  | cmd
  | errInfo
  | srcBase
  | srcW
  | srcH
  | srcC
  | dstBase
  | dstW
  | dstH
  | outW
  | outH
  | outC
  | gamma
  | lutIndex
  | lutData
  | pbaX
  | pbaY
  | pbaCh
  | pbaAddr
  | pbaData
  | cmdCount
  | pixSize
  deriving DecidableEq, Repr

/-- `offset(NAME)` (R36, spec/30_encoding.md R126). -/
def RegName.offset : RegName → Word
  | .id => 0x00
  | .version => 0x04
  | .ctrl => 0x08
  | .status => 0x0C
  | .cmd => 0x10
  | .errInfo => 0x14
  | .srcBase => 0x18
  | .srcW => 0x1C
  | .srcH => 0x20
  | .srcC => 0x24
  | .dstBase => 0x28
  | .dstW => 0x2C
  | .dstH => 0x30
  | .outW => 0x34
  | .outH => 0x38
  | .outC => 0x3C
  | .gamma => 0x40
  | .lutIndex => 0x44
  | .lutData => 0x48
  | .pbaX => 0x4C
  | .pbaY => 0x50
  | .pbaCh => 0x54
  | .pbaAddr => 0x58
  | .pbaData => 0x5C
  | .cmdCount => 0x60
  | .pixSize => 0x64

/-- The registers in the order of the map. -/
def RegName.all : List RegName :=
  [ .id, .version, .ctrl, .status, .cmd, .errInfo, .srcBase, .srcW, .srcH, .srcC, .dstBase, .dstW, .dstH,
    .outW, .outH, .outC, .gamma, .lutIndex, .lutData, .pbaX, .pbaY, .pbaCh, .pbaAddr, .pbaData, .cmdCount,
    .pixSize ]

/-- The register of a list whose offset is `off`, if there is one. -/
def findReg (off : Word) : List RegName → Option RegName
  | [] => none
  | n :: rest => if n.offset = off then some n else findReg off rest

/-- The register at an offset, `none` for a reserved offset (R36, R49). -/
def regAt (off : Word) : Option RegName := findReg off RegName.all

/-- A field of a narrower register, the bits above it reading 0 (R35: an unlisted bit is RAZ/WI). -/
def fieldWord {n : Nat} (v : BitVec n) : Word := v.setWidth 32

/-- What a register reads (R36, R37, R141). No read has a side effect (R98). -/
def regValue (s : State) : RegName → Word
  | .id => 0x4D4D4950
  | .version => 0x00000007
  | .ctrl => s.ctrlWord
  | .status => s.statusWord
  | .cmd => s.cmdLast
  | .errInfo => s.errInfo
  | .srcBase => s.srcBase
  | .srcW => fieldWord s.srcW
  | .srcH => fieldWord s.srcH
  | .srcC => fieldWord s.srcC
  | .dstBase => s.dstBase
  | .dstW => fieldWord s.dstW
  | .dstH => fieldWord s.dstH
  | .outW => fieldWord s.outW
  | .outH => fieldWord s.outH
  | .outC => fieldWord s.outC
  | .gamma => s.gamma
  | .lutIndex => fieldWord s.lutIndex
  | .lutData => fieldWord (s.lutAt s.lutIndex)
  | .pbaX => s.pbaX
  | .pbaY => s.pbaY
  | .pbaCh => fieldWord s.pbaCh
  | .pbaAddr => s.pbaAddr
  | .pbaData => fieldWord s.pbaData
  | .cmdCount => s.cmdCount
  | .pixSize => BitVec.ofNat 32 s.cfg.pixBytes

/-- `regValue(off)`: reserved offsets read 0 (R49). -/
def regValueAt (s : State) (off : Word) : Word :=
  match regAt off with
  | some n => regValue s n
  | none => 0

end Sys2Proof.Machine
end

