-- ==== Sys2Proof/WellFormed.lean ====
section
/-! DEFINITION. Well-formedness of what the host can say to the block. A command has no operand and no immediate
(spec/30_encoding.md R122), so every `Instr` is well formed; a transaction is well formed when it is one of the
six that spec/40_host_port.md R141 to R151 define. The machine does not call these checks: its own are the
pseudocode of Machine/HostPort.lean, and an obligation says that the two agree (R146). -/

namespace Sys2Proof

/-- Every command is well formed: it has no field to check (R120, R122). -/
def Instr.wellFormed : Instr → Bool
  | .nop | .lutNeg | .lutLog | .lutGamma | .lutApply => true
  | .gray | .rsNearest | .rsBilinear | .addrRaw | .addrClamp => true

namespace Machine

/-- The offset lies in the 256-byte register window (R91). -/
def BusRequest.inRegWindow (r : BusRequest) : Bool := r.offset.toNat < 256

/-- A register transaction is 4 bytes wide at a 4-aligned offset (R96, R146). -/
def BusRequest.regWellFormed (r : BusRequest) : Bool :=
  r.size == .four && r.offset.toNat % 4 == 0

/-- A pixel transaction is 1 byte wide, or 4 at a 4-aligned offset, and ends inside pixel memory (R96, R146). -/
def BusRequest.pixWellFormed (c : Config) (r : BusRequest) : Bool :=
  (r.size == .one || (r.size == .four && r.offset.toNat % 4 == 0)) &&
    decide (r.offset.toNat + r.size.bytes ≤ c.pixBytes)

/-- A transaction the block defines (R141 to R152). -/
def BusRequest.wellFormed (c : Config) (r : BusRequest) : Bool :=
  match r.space with
  | .reg => r.inRegWindow && r.regWellFormed
  | .pix => r.pixWellFormed c

end Machine

end Sys2Proof
end

