-- ==== Sys2Proof/Decode.lean ====
section
/-! DEFINITION. The decoder of spec/30_encoding.md R124 and, after it, the encoder from the fields of R120. A
command is one 32-bit word as a register write carries it (R120, R121); how its bits map to byte lanes is part of
`HOST_BUS` (spec/20_memory.md R94), so decoding starts from the word, and there is no length to find. -/

namespace Sys2Proof

/-- The rows of R123: the whole word selects the command (mask 0xFFFFFFFF). -/
def opcodeRows : List (Word × Instr) :=
  [ (0x00000000#32, .nop),
    (0x00000001#32, .lutNeg),
    (0x00000011#32, .lutLog),
    (0x00000021#32, .lutGamma),
    (0x00000002#32, .lutApply),
    (0x00000003#32, .gray),
    (0x00000004#32, .rsNearest),
    (0x00000014#32, .rsBilinear),
    (0x00000005#32, .addrRaw),
    (0x00000015#32, .addrClamp) ]

/-- The row of a table whose word equals `w`, if there is one. -/
def lookupRow (w : Word) : List (Word × Instr) → Option Instr
  | [] => none
  | (v, i) :: rows => if v = w then some i else lookupRow w rows

/-- `decode(word)` of R124, total on all 2^32 words; `none` is the spec's `Unknown` (R125). -/
def decode (w : Word) : Option Instr := lookupRow w opcodeRows

/-- The operation class, bits [3:0] of a command's word (R120, R123). -/
def Instr.op : Instr → BitVec 4
  | .nop => 0x0#4
  | .lutNeg => 0x1#4
  | .lutLog => 0x1#4
  | .lutGamma => 0x1#4
  | .lutApply => 0x2#4
  | .gray => 0x3#4
  | .rsNearest => 0x4#4
  | .rsBilinear => 0x4#4
  | .addrRaw => 0x5#4
  | .addrClamp => 0x5#4

/-- The function within the class, bits [7:4] (R120, R123). -/
def Instr.fn : Instr → BitVec 4
  | .nop => 0x0#4
  | .lutNeg => 0x0#4
  | .lutLog => 0x1#4
  | .lutGamma => 0x2#4
  | .lutApply => 0x0#4
  | .gray => 0x0#4
  | .rsNearest => 0x0#4
  | .rsBilinear => 0x1#4
  | .addrRaw => 0x0#4
  | .addrClamp => 0x1#4

/-- The command's word, laid out from its fields: RSV = 0 in [31:8], FN in [7:4], OP in [3:0] (R120). -/
def encode (i : Instr) : Word := 0#24 ++ i.fn ++ i.op

/-- The instruction the decoder reads from an opcode-table word of `nbits` bits. Every command is 32 bits long
(R121): bits above `nbits` are 0, and a word that needs more than 32 bits is no command. -/
def decodeTableWord (nbits w : Nat) : Option Instr :=
  if w % 2 ^ nbits < 2 ^ 32 then decode (BitVec.ofNat 32 (w % 2 ^ nbits)) else none

end Sys2Proof
end

