-- ==== Sys2Proof/Machine/Reset.lean ====
section
/-! DEFINITION. Reset (spec/70_reset_and_hazards.md R310 to R312). -/

namespace Sys2Proof.Machine

/-- Every register, the valid bits and the LUT contents at their values of R310; pixel memory, the configuration and
what lies outside the block (turns, responses) as before. The soft reset of R311 is this. -/
def State.softReset (s : State) : State :=
  { State.powerOn s.cfg with
    pix := s.pix
    held := s.held
    turns := s.turns
    responses := s.responses
    draws := s.draws }

/-- The destination region a hard reset leaves unspecified: that of a running buffer-producing command whose checks
V1 to V7 would pass (R312). V8 does not apply to such a command. -/
def State.interruptedDestination (s : State) : Option Desc :=
  if s.busy then
    match decode s.cmdLast with
    | some i => if validate i s = none then s.destination i else none
    | none => none
  else none

/-- A hard reset, `rst_n` asserted and released (R310): a held transaction is dropped with no effect, and a running
command never completes (R312). -/
def State.hardReset (s : State) : State :=
  match s.interruptedDestination with
  | none => { s.softReset with held := none }
  | some d =>
    { s.softReset with
      held := none
      pix := fillRegion s.cfg d.base (fun i => Config.scrambledByte s.draws (d.base + i)) d.size s.pix
      draws := s.draws + 1 }

end Sys2Proof.Machine
end

