-- ==== Sys2Proof/Machine/HostPort.lean ====
section
/-! DEFINITION. The host's transactions (spec/40_host_port.md R141 to R152). -/

namespace Sys2Proof.Machine

/-! ## Register transactions -/

/-- A LUT_DATA write while BUSY = 0 (spec/10_state.md R62):
`LUT[LUT_INDEX] <- d[7:0]; V[LUT_INDEX] <- 1; LUT_INDEX <- (LUT_INDEX + 1) mod 256`. -/
def State.writeLutData (s : State) (d : Word) : State :=
  { s.setLut s.lutIndex (d.setWidth 8) with lutIndex := s.lutIndex + 1 }

/-- A CTRL write while BUSY = 0: IRQ_EN, then the soft reset if bit 0 is 1, which overrides it (R39, R142). -/
def State.writeCtrl (s : State) (d : Word) : State :=
  if d.getLsbD 0 then { s with ctrlIrqEn := d.getLsbD 1 }.softReset else { s with ctrlIrqEn := d.getLsbD 1 }

/-- A register write while BUSY = 0 (R142); bits outside a field are dropped. -/
def State.writeReg (s : State) (d : Word) : RegName → State
  | .ctrl => s.writeCtrl d
  | .status => s.clearStatus d
  | .cmd => s.issue d
  | .srcBase => { s with srcBase := d }
  | .srcW => { s with srcW := d.setWidth 16 }
  | .srcH => { s with srcH := d.setWidth 16 }
  | .srcC => { s with srcC := d.setWidth 8 }
  | .dstBase => { s with dstBase := d }
  | .dstW => { s with dstW := d.setWidth 16 }
  | .dstH => { s with dstH := d.setWidth 16 }
  | .gamma => { s with gamma := d }
  | .lutIndex => { s with lutIndex := d.setWidth 8 }
  | .lutData => s.writeLutData d
  | .pbaX => { s with pbaX := d }
  | .pbaY => { s with pbaY := d }
  | .pbaCh => { s with pbaCh := d.setWidth 8 }
  | .id | .version | .errInfo | .outW | .outH | .outC => s
  | .pbaAddr | .pbaData | .cmdCount | .pixSize => s

/-- A register write at an offset while BUSY = 0: a reserved offset ignores it (R49). -/
def State.idleWrite (s : State) (off d : Word) : State :=
  match regAt off with
  | some n => s.writeReg d n
  | none => s

/-- A register write while BUSY = 1 (R144): only STATUS takes it, any other offset sets WIGN. -/
def State.busyWrite (s : State) (off d : Word) : State :=
  match regAt off with
  | some .status => s.clearStatus d
  | _ => s.raiseWign

/-- A register transaction (R141, R142, R144, R146, R152). An offset outside the 256-byte window is not decoded by the
block: it has no effect and no response of the block's (R146; log entry 7). -/
def State.regTransaction (s : State) (r : BusRequest) : State :=
  if 256 ≤ r.offset.toNat then s
  else if r.size ≠ .four ∨ r.offset.toNat % 4 ≠ 0 then s.respond .error
  else
    match r.access with
    | .read => s.respond (.okayRead (regValueAt s r.offset))
    | .write d =>
      if s.busy then (s.busyWrite r.offset d).respond .okayWrite else (s.idleWrite r.offset d).respond .okayWrite

/-! ## Pixel transactions -/

/-- PIX_RD8 (R148). -/
def State.pixRead8 (s : State) (a : Nat) : State :=
  if a + 1 > s.cfg.pixBytes then s.respond .error else s.respond (.okayRead (fieldWord (s.readPix a)))

/-- PIX_WR8 (R149): bits [31:8] of the data are dropped. -/
def State.pixWrite8 (s : State) (a : Nat) (d : Word) : State :=
  if a + 1 > s.cfg.pixBytes then s.respond .error else (s.writePix a (d.setWidth 8)).respond .okayWrite

/-- PIX_RD32 (R150). -/
def State.pixRead32 (s : State) (a : Nat) : State :=
  if a % 4 ≠ 0 ∨ a + 4 > s.cfg.pixBytes then s.respond .error else s.respond (.okayRead (s.readPix32 a))

/-- PIX_WR32 (R151). -/
def State.pixWrite32 (s : State) (a : Nat) (d : Word) : State :=
  if a % 4 ≠ 0 ∨ a + 4 > s.cfg.pixBytes then s.respond .error else (s.writePix32 a d).respond .okayWrite

/-- A pixel transaction performed while BUSY = 0 (R148 to R151); size 2 is no defined transaction (R152). -/
def State.pixTransaction (s : State) (r : BusRequest) : State :=
  match r.size, r.access with
  | .one, .read => s.pixRead8 r.offset.toNat
  | .one, .write d => s.pixWrite8 r.offset.toNat d
  | .two, .read => s.respond .error
  | .two, .write _ => s.respond .error
  | .four, .read => s.pixRead32 r.offset.toNat
  | .four, .write d => s.pixWrite32 r.offset.toNat d

/-- A transaction the host issues while none is held: register transactions are never held (R145), a pixel transaction
is held while BUSY = 1 (R147). -/
def State.hostTransaction (s : State) (r : BusRequest) : State :=
  match r.space with
  | .reg => s.regTransaction r
  | .pix => if s.busy then s.setHeld (some r) else s.pixTransaction r

/-- The held transaction is performed once BUSY = 0, against the state after completion (R147). -/
def State.performHeld (s : State) (r : BusRequest) : State := (s.setHeld none).pixTransaction r

end Sys2Proof.Machine
end

