-- ==== Sys2Proof/Machine/Engine.lean ====
section
/-! DEFINITION. The command engine's step and the choice of the agent that moves (spec/41_command_control.md R161 to
R163, spec/20_memory.md R104, R105). -/

namespace Sys2Proof.Machine

/-- `complete` (R163): decode CMD_LAST and run the command; a word that is no command completes with
UNKNOWN_OPERATION and the word (V1, R165). -/
def completeStep (s : State) : Host.Outcome State Fault Refusal :=
  match decode s.cmdLast with
  | some i => exec i s
  | none => .next (s.completeError (.unknownOperation s.cmdLast))

/-- The engine's turn at the head of the list, if it stands there, is used up. -/
def dropEngineTurn : List Turn → List Turn
  | .engine :: ts => ts
  | ts => ts

/-- The turn of a state in which no transaction is held and no reset comes. -/
def takeTurn (s : State) : Host.Outcome State Fault Refusal :=
  match s.turns with
  | [] => if s.busy then completeStep s else .next s
  | .engine :: ts => if s.busy then completeStep (s.setTurns ts) else .next (s.setTurns ts)
  | .host r :: ts => .next ((s.setTurns ts).hostTransaction r)
  | .statusWriteAtCompletion d :: ts =>
    if s.busy then completeStep (((s.setTurns ts).clearStatus d).respond .okayWrite)
    else .next (((s.setTurns ts).clearStatus d).respond .okayWrite)
  | .hardReset :: ts => .next (s.setTurns ts).hardReset

/-- One step of the block. A hard reset overrides everything in the same step (R287). While a transaction is held the
host's next one waits for it (R147), so the engine completes and then the held transaction is performed. With no turn
left a running command completes, the weak fairness of R162, and an idle block waits (R314). -/
def nextStep (s : State) : Host.Outcome State Fault Refusal :=
  match s.turns, s.held with
  | .hardReset :: ts, _ => .next (s.setTurns ts).hardReset
  | _, some r =>
    if s.busy then completeStep (s.setTurns (dropEngineTurn s.turns)) else .next (s.performHeld r)
  | _, none => takeTurn s

/-- The state whose next step completes the command word `w`: the word is accepted (R160) and the engine's turn comes
next. -/
def State.withCommand (s : State) (w : Word) : State :=
  (s.issue w).setTurns (.engine :: s.turns)

end Sys2Proof.Machine
end

