-- ==== Sys2Proof/Machine/Step.lean ====
section
/-! DEFINITION. The step of the machine, and a state whose next step runs a given opcode-table word. -/

namespace Sys2Proof.Machine

/-- One step: a host transaction, a command's completion, or a reset (spec/20_memory.md R105). -/
def step (s : State) : Host.Outcome State Fault Refusal := nextStep s

/-- The block fetches nothing (spec/00_scope.md R2); its next instruction is the accepted word CMD_LAST of a busy engine
(spec/41_command_control.md R160, R161). Log entry 5. -/
def State.withFetchWord (s : State) (nbits w : Nat) : State := s.withCommand (BitVec.ofNat 32 (w % 2 ^ nbits))

end Sys2Proof.Machine
end

