-- ==== Sys2Proof/Safety.lean ====
section
/-! DEFINITION. The terms the statements use: when a command is legal, what a completed or failed command leaves, and
the invariant of the machine. None of it is called by the machine. -/

namespace Sys2Proof.Safety

open Sys2Proof.Machine

/-! ## When a command is legal (spec/41_command_control.md R166 to R171) -/

/-- The size of the source buffer, `W*H*C` (R168). -/
def sourceSize (s : State) : Nat := s.srcW.toNat * s.srcH.toNat * s.srcC.toNat

/-- V2 passes: W, H at least 1, C 1 or 3 (R166). -/
def SourceLegal (s : State) : Prop :=
  1 ≤ s.srcW.toNat ∧ 1 ≤ s.srcH.toNat ∧ (s.srcC.toNat = 1 ∨ s.srcC.toNat = 3)

/-- V3 passes: OW, OH at least 1 (R167). -/
def TargetLegal (s : State) : Prop := 1 ≤ s.dstW.toNat ∧ 1 ≤ s.dstH.toNat

/-- V4 passes: every LUT valid bit is 1 (R171). -/
def TableLoaded (s : State) : Prop := ∀ i, (h : i < 256) → s.lutValid[i] = true

/-- V5 passes (R168). -/
def SourceFits (s : State) : Prop := s.srcBase.toNat + sourceSize s ≤ s.cfg.pixBytes

/-- V6 passes for a destination of `ds` bytes (R168). -/
def DestinationFits (s : State) (ds : Nat) : Prop := s.dstBase.toNat + ds ≤ s.cfg.pixBytes

/-- V7 passes for a destination of `ds` bytes (R102, R169). -/
def RegionsDisjoint (s : State) (ds : Nat) : Prop :=
  ¬(s.srcBase.toNat < s.dstBase.toNat + ds ∧ s.dstBase.toNat < s.srcBase.toNat + sourceSize s)

/-- The size of the buffer a command writes: `W*H*C`, `W*H` or `OW*OH*C` (R168); 0 for a command that writes none. -/
def destinationSize (s : State) : Instr → Nat
  | .lutApply => s.srcW.toNat * s.srcH.toNat * s.srcC.toNat
  | .gray => s.srcW.toNat * s.srcH.toNat
  | .rsNearest => s.dstW.toNat * s.dstH.toNat * s.srcC.toNat
  | .rsBilinear => s.dstW.toNat * s.dstH.toNat * s.srcC.toNat
  | .nop | .lutNeg | .lutLog | .lutGamma | .addrRaw | .addrClamp => 0

/-- The buffer-producing commands (R46). -/
def writesBuffer : Instr → Bool
  | .lutApply | .gray | .rsNearest | .rsBilinear => true
  | .nop | .lutNeg | .lutLog | .lutGamma | .addrRaw | .addrClamp => false

/-- The checks of a buffer-producing command other than LUT.APPLY's V4 (R164). -/
def BufferLegal (s : State) (i : Instr) : Prop :=
  SourceLegal s ∧ SourceFits s ∧ DestinationFits s (destinationSize s i) ∧ RegionsDisjoint s (destinationSize s i)

/-- An offset inside the source region (R14). -/
def InSource (s : State) (a : Nat) : Prop := s.srcBase.toNat ≤ a ∧ a < s.srcBase.toNat + sourceSize s

/-- An offset inside the destination region of a command (R14). -/
def InDestination (s : State) (i : Instr) (a : Nat) : Prop :=
  s.dstBase.toNat ≤ a ∧ a < s.dstBase.toNat + destinationSize s i

/-! ## What a completion leaves (R163, R173) -/

/-- A completion with an error writes exactly ERR_CODE, ERR_INFO, ERR, CMD_COUNT and BUSY (R173). -/
def failed (s : State) (code : Byte) (info : Word) : State :=
  { s with errCode := code, errInfo := info, err := true, cmdCount := s.cmdCount + 1, busy := false }

/-- The status effects of a completion without error (R163). -/
def succeeded (s : State) : State :=
  { s with errCode := 0, errInfo := 0, done := true, cmdCount := s.cmdCount + 1, busy := false }

/-- A state with some pixel memory and an output descriptor, otherwise as `s` after a completion without error: what a
buffer-producing command may change and nothing else. -/
def produced (s : State) (m : Memory) (w h : Half) (c : Byte) : State :=
  succeeded { s with pix := m, outW := w, outH := h, outC := c }

/-- The errors a command may complete with, the table of spec/60_exceptions.md R282. -/
def mayRaise : Instr → CmdError → Bool
  | _, .unknownOperation _ => false
  | .nop, _ | .lutNeg, _ | .lutLog, _ | .lutGamma, _ => false
  | .lutApply, .invalidDimension f => f == .srcW || f == .srcH || f == .srcC
  | .lutApply, .lutNotLoaded k => decide (k < 256)
  | .lutApply, .regionOverflow _ => true
  | .lutApply, .aliased => true
  | .lutApply, .addrRange _ => false
  | .gray, .invalidDimension f => f == .srcW || f == .srcH || f == .srcC
  | .gray, .lutNotLoaded _ => false
  | .gray, .regionOverflow _ => true
  | .gray, .aliased => true
  | .gray, .addrRange _ => false
  | .rsNearest, .invalidDimension _ => true
  | .rsNearest, .lutNotLoaded _ => false
  | .rsNearest, .regionOverflow _ => true
  | .rsNearest, .aliased => true
  | .rsNearest, .addrRange _ => false
  | .rsBilinear, .invalidDimension _ => true
  | .rsBilinear, .lutNotLoaded _ => false
  | .rsBilinear, .regionOverflow _ => true
  | .rsBilinear, .aliased => true
  | .rsBilinear, .addrRange _ => false
  | .addrRaw, .invalidDimension f => f == .srcW || f == .srcH || f == .srcC
  | .addrRaw, .lutNotLoaded _ => false
  | .addrRaw, .regionOverflow r => r == .source
  | .addrRaw, .aliased => false
  | .addrRaw, .addrRange _ => true
  | .addrClamp, .invalidDimension f => f == .srcW || f == .srcH || f == .srcC
  | .addrClamp, .lutNotLoaded _ => false
  | .addrClamp, .regionOverflow r => r == .source
  | .addrClamp, .aliased => false
  | .addrClamp, .addrRange c => c == .channel

/-- What is checked before the regions: V2 for every command that reads the source descriptor, V3 for the resampling
commands, V4 for LUT.APPLY (R164). -/
def DimensionsLegal (s : State) : Instr → Prop
  | .lutApply => SourceLegal s ∧ TableLoaded s
  | .gray => SourceLegal s
  | .rsNearest => SourceLegal s ∧ TargetLegal s
  | .rsBilinear => SourceLegal s ∧ TargetLegal s
  | .addrRaw => SourceLegal s
  | .addrClamp => SourceLegal s
  | .nop | .lutNeg | .lutLog | .lutGamma => True

/-! ## Host requests -/

/-- A register transaction of 4 bytes (R126). -/
def regRequest (off : Word) (a : Access) : BusRequest :=
  { space := .reg, offset := off, size := .four, access := a }

/-- A pixel transaction (R126). -/
def pixRequest (off : Word) (n : AccessSize) (a : Access) : BusRequest :=
  { space := .pix, offset := off, size := n, access := a }

/-- A register offset a transaction may name: inside the window and 4-aligned (R96). -/
def RegOffset (off : Word) : Prop := off.toNat < 256 ∧ off.toNat % 4 = 0

/-- A state with one more response, and nothing else changed. -/
def answered (s : State) (r : BusResponse) : State := { s with responses := s.responses ++ [r] }

/-! ## The source's real-valued formulas (spec/45_resampler.md R251, R254, R257) -/

/-- The nearest-neighbour coordinate: `floor(i * (N/ON) + 1/2)` clamped into range (R251). -/
def nearestIndex (i n out : Nat) : Nat := min ⌊(i : ℚ) * ((n : ℚ) / out) + 1 / 2⌋.toNat (n - 1)

/-- The half-pixel-center position `g = (i + 1/2) * N/ON - 1/2` (R254). -/
def axisPosition (i n out : Nat) : ℚ := ((i : ℚ) + 1 / 2) * ((n : ℚ) / out) - 1 / 2

/-- A coordinate replaced by the nearest in-range one, `clamp(v, 0, n-1)` (R192). -/
def edge (v : ℤ) (n : Nat) : Nat := (max 0 (min v ((n : ℤ) - 1))).toNat

/-- The source sample at clamped coordinates (R192). -/
def edgeSample (s : State) (x y : ℤ) (ch : Nat) : Nat :=
  (s.readPix (s.srcBase.toNat + (edge y s.srcH.toNat * s.srcW.toNat + edge x s.srcW.toNat) * s.srcC.toNat + ch)).toNat

/-- The bilinear value `(1-wy)*top + wy*bot` over the rationals, before rounding (R257). -/
def bilinearValue (s : State) (x y ch : Nat) : ℚ :=
  let gx := axisPosition x s.srcW.toNat s.dstW.toNat
  let gy := axisPosition y s.srcH.toNat s.dstH.toNat
  let wx := gx - ⌊gx⌋
  let wy := gy - ⌊gy⌋
  let top := (1 - wx) * edgeSample s ⌊gx⌋ ⌊gy⌋ ch + wx * edgeSample s (⌊gx⌋ + 1) ⌊gy⌋ ch
  let bot := (1 - wx) * edgeSample s ⌊gx⌋ (⌊gy⌋ + 1) ch + wx * edgeSample s (⌊gx⌋ + 1) (⌊gy⌋ + 1) ch
  (1 - wy) * top + wy * bot

/-- The gamma exponent as a real number (R47, R224): `sext_32(GAMMA) / 65536`, and 1 for a value <= 0. -/
noncomputable def gammaReal (s : State) : ℝ := if 0 < s.gamma.toInt then (s.gamma.toInt : ℝ) / 65536 else 1

/-! ## The invariant -/

/-- ERR_CODE is one of the codes of R280 (the reserved codes are never produced), and ERR_INFO is a value R281 gives for
that code. -/
def ErrorRegistersLegal (s : State) : Prop :=
  (s.errCode = 0x00 ∧ s.errInfo = 0) ∨
  (s.errCode = 0x01 ∧ 1 ≤ s.errInfo.toNat ∧ s.errInfo.toNat ≤ 5) ∨
  (s.errCode = 0x02 ∧ decode s.errInfo = none) ∨
  (s.errCode = 0x03 ∧ s.errInfo.toNat < 256) ∨
  (s.errCode = 0x04 ∧ 1 ≤ s.errInfo.toNat ∧ s.errInfo.toNat ≤ 2) ∨
  (s.errCode = 0x05 ∧ s.errInfo = 0) ∨
  (s.errCode = 0x06 ∧ 1 ≤ s.errInfo.toNat ∧ s.errInfo.toNat ≤ 3)

/-- OUT_W, OUT_H, OUT_C are all 0, or describe a legal buffer no larger than pixel memory (R46). -/
def OutputLegal (s : State) : Prop :=
  (s.outW = 0 ∧ s.outH = 0 ∧ s.outC = 0) ∨
  (1 ≤ s.outW.toNat ∧ 1 ≤ s.outH.toNat ∧ (s.outC.toNat = 1 ∨ s.outC.toNat = 3) ∧
    s.outW.toNat * s.outH.toNat * s.outC.toNat ≤ s.cfg.pixBytes)

/-- The invariant of the machine: pixel memory in its canonical form inside PIX space (R90), the error registers legal
(R280, R281), the output descriptor legal (R46), PBA_ADDR the offset of a byte (R191), and a held transaction a
pixel transaction (R147). -/
def MachineInv (s : State) : Prop :=
  Memory.wf s.cfg s.pix = true ∧ ErrorRegistersLegal s ∧ OutputLegal s ∧ s.pbaAddr.toNat < s.cfg.pixBytes ∧
    ∀ r, s.held = some r → r.space = .pix

/-! ## Runs -/

/-- `k` steps of the machine, stopping at a fault or a refusal. -/
def run : Nat → State → Host.Outcome State Fault Refusal
  | 0, s => .next s
  | k + 1, s =>
    match step s with
    | .next t => run k t
    | .fault r => .fault r
    | .refused r => .refused r

end Sys2Proof.Safety
end

