-- ==== Sys2Proof/Certificates/Slice0/Obligations.lean ====
section
/-! DEFINITION. The statements for the provers. Each says in its docstring which rule of spec/ it formalises; the terms are
those of Sys2Proof/Safety.lean. -/

open Sys2Proof Sys2Proof.Machine Sys2Proof.Safety

/-! ## Encoding -/

/-- The words of R123, each decoding to its command: a sanity check of single bits. -/
def Obligations.TableWordsDecode : Prop :=
  decode 0x00000000#32 = some .nop ∧ decode 0x00000021#32 = some .lutGamma ∧ decode 0x00000002#32 = some .lutApply ∧
    decode 0x00000003#32 = some .gray ∧ decode 0x00000014#32 = some .rsBilinear ∧
    decode 0x00000015#32 = some .addrClamp

/-- R120, R123: the word laid out from OP, FN and RSV = 0 decodes to the command, for every command. -/
def Obligations.DecodeOfEncodeIsTheCommand : Prop :=
  ∀ i : Instr, i.wellFormed = true → decode (encode i) = some i

/-- R123: each command is selected by the whole 32-bit word, for every one of the 2^32 words. -/
def Obligations.WholeWordSelectsTheCommand : Prop :=
  ∀ w : Word,
    (decode w = some .nop ↔ w = 0x00000000) ∧ (decode w = some .lutNeg ↔ w = 0x00000001) ∧
    (decode w = some .lutLog ↔ w = 0x00000011) ∧ (decode w = some .lutGamma ↔ w = 0x00000021) ∧
    (decode w = some .lutApply ↔ w = 0x00000002) ∧ (decode w = some .gray ↔ w = 0x00000003) ∧
    (decode w = some .rsNearest ↔ w = 0x00000004) ∧ (decode w = some .rsBilinear ↔ w = 0x00000014) ∧
    (decode w = some .addrRaw ↔ w = 0x00000005) ∧ (decode w = some .addrClamp ↔ w = 0x00000015)

/-- R125: exactly the listed field combinations are reserved, and all of them complete with UNKNOWN_OPERATION and the
word, writing nothing else. -/
def Obligations.ReservedWordsCompleteWithUnknownOperation : Prop :=
  ∀ w : Word,
    (decode w = none ↔
      w.extractLsb' 8 24 ≠ 0 ∨
      (w.extractLsb' 0 4 = 0 ∧ w.extractLsb' 4 4 ≠ 0) ∨
      (w.extractLsb' 0 4 = 1 ∧ 3 ≤ (w.extractLsb' 4 4).toNat) ∨
      ((w.extractLsb' 0 4 = 2 ∨ w.extractLsb' 0 4 = 3) ∧ w.extractLsb' 4 4 ≠ 0) ∨
      ((w.extractLsb' 0 4 = 4 ∨ w.extractLsb' 0 4 = 5) ∧ 2 ≤ (w.extractLsb' 4 4).toNat) ∨
      6 ≤ (w.extractLsb' 0 4).toNat) ∧
    ∀ s : State, s.cmdLast = w → decode w = none → completeStep s = .next (failed s 0x02 w)

/-! ## The step -/

/-- R161, R163: when the engine moves, a step is the completion of the command that CMD_LAST decodes to, at the state
with the engine's turn used up, and for a word that is no command it is the error completion of R125. The engine moves on
its own turn, when no turn is left, and when the host waits for a held transaction (R147). The turns are the model's (log
entries 5 and 9). -/
def Obligations.StepRunsTheDecodedCommand : Prop :=
  (∀ (s : State) (i : Instr), s.busy = true → decode s.cmdLast = some i → i.wellFormed = true →
    (∀ ts, s.turns = .engine :: ts → step s = exec i { s with turns := ts }) ∧
    (s.turns = [] → step s = exec i s) ∧
    (∀ r q ts, s.held = some r → s.turns = .host q :: ts → step s = exec i s) ∧
    (∀ r d ts, s.held = some r → s.turns = .statusWriteAtCompletion d :: ts → step s = exec i s)) ∧
  ∀ s : State, s.busy = true → decode s.cmdLast = none →
    (∀ ts, s.turns = .engine :: ts → step s = .next (failed { s with turns := ts } 0x02 s.cmdLast)) ∧
    (s.turns = [] → step s = .next (failed s 0x02 s.cmdLast)) ∧
    (∀ r q ts, s.held = some r → s.turns = .host q :: ts → step s = .next (failed s 0x02 s.cmdLast)) ∧
    (∀ r d ts, s.held = some r → s.turns = .statusWriteAtCompletion d :: ts →
      step s = .next (failed s 0x02 s.cmdLast))

/-- The machine never stops: a command error is a completion (R288), a bus error a response (R284), an idle block waits
(R314). Log entries 8 and 11. -/
def Obligations.EveryStepAnswersNext : Prop := ∀ s : State, ∃ t, step s = .next t

/-- R162: every accepted command completes unless a hard reset comes first, here within as many steps as there are turns,
and one more. The bound is the model's (log entry 5). -/
def Obligations.AcceptedCommandCompletes : Prop :=
  ∀ s : State, s.busy = true → Turn.hardReset ∉ s.turns →
    ∃ k t, k ≤ s.turns.length + 1 ∧ run k s = .next t ∧ t.busy = false ∧ t.cmdCount = s.cmdCount + 1

/-! ## The invariant -/

/-- The invariant holds after power-on, in every configuration. -/
def Obligations.InvariantHoldsAtPowerOn : Prop := (∀ c : Config, MachineInv (State.powerOn c)) ∧ MachineInv State.reset

/-- Every step of every agent keeps the invariant: canonical pixel memory inside PIX space, error registers as R280 and
R281 say, a legal output descriptor, PBA_ADDR the offset of a byte. -/
def Obligations.EveryStepKeepsTheInvariant : Prop := ∀ s t : State, MachineInv s → step s = .next t → MachineInv t

/-! ## Reset -/

/-- R36: what every register reads after power-on, in every configuration. -/
def Obligations.PowerOnRegisterValues : Prop :=
  ∀ c : Config, ∀ off : Word, RegOffset off → off ≠ 0x48 →
    regValueAt (State.powerOn c) off =
      if off = 0x00 then 0x4D4D4950
      else if off = 0x04 then 0x00000007
      else if off = 0x40 then 0x00010000
      else if off = 0x64 then BitVec.ofNat 32 c.pixBytes
      else 0x00000000

/-- R310: what a hard reset leaves, whatever the state was. The reset is one step (log entry 14). -/
def Obligations.HardResetLeavesTheResetState : Prop :=
  ∀ (s : State) (ts : List Turn), s.turns = .hardReset :: ts →
    ∃ t, step s = .next t ∧
      (∀ off, RegOffset off → off ≠ 0x48 → regValueAt t off = regValueAt (State.powerOn s.cfg) off) ∧
      t.busy = false ∧ t.done = false ∧ t.err = false ∧ t.wign = false ∧
      t.errCode = 0 ∧ t.errInfo = 0 ∧ t.cmdLast = 0 ∧ t.cmdCount = 0 ∧
      t.ctrlIrqEn = false ∧ t.irq = false ∧
      (∀ k, (h : k < 256) → t.lutValid[k] = false) ∧ t.lutAllValid = false ∧
      t.lut = s.cfg.initLut ∧ t.held = none ∧
      (s.busy = false → ∀ a, t.readPix a = s.readPix a)

/-- R312: a hard reset during a command changes no pixel byte outside the destination region of a buffer-producing command
whose checks would pass, and none at all for any other command; the command never completes. Inside the region the bytes are free values (log
entry 4), of which nothing is said. -/
def Obligations.HardResetDuringACommandIsConfined : Prop :=
  ∀ (s : State) (ts : List Turn), s.turns = .hardReset :: ts → s.busy = true →
    ∃ t, step s = .next t ∧ t.done = false ∧ t.err = false ∧ t.cmdCount = 0 ∧ t.busy = false ∧
      (∀ i, decode s.cmdLast = some i → ∀ a, ¬InDestination s i a → t.readPix a = s.readPix a) ∧
      (∀ i, decode s.cmdLast = some i → validate i s ≠ none → ∀ a, t.readPix a = s.readPix a) ∧
      (decode s.cmdLast = none → ∀ a, t.readPix a = s.readPix a)

/-- R311: the soft reset. -/
def Obligations.SoftResetKeepsPixelMemory : Prop :=
  ∀ (s : State) (d : Word), d.getLsbD 0 = true →
    (s.busy = false →
      ∃ t, s.hostTransaction (regRequest 0x08 (.write d)) = t ∧
        (∀ off, RegOffset off → off ≠ 0x48 → regValueAt t off = regValueAt (State.powerOn s.cfg) off) ∧
        (∀ k, (h : k < 256) → t.lutValid[k] = false) ∧ t.lut = s.cfg.initLut ∧
        (∀ a, t.readPix a = s.readPix a) ∧ t.responses = s.responses ++ [.okayWrite]) ∧
    (s.busy = true →
      s.hostTransaction (regRequest 0x08 (.write d)) = answered { s with wign := true } .okayWrite)

/-! ## Register transactions -/

/-- R37: ID and VERSION read constants, PIX_SIZE reads PIX_BYTES mod 2^32 and so 0 for a memory of exactly 2^32 bytes, in
every state, and no step changes them. -/
def Obligations.IdentificationNeverChanges : Prop :=
  (∀ s : State, regValueAt s 0x00 = 0x4D4D4950 ∧ regValueAt s 0x04 = 0x00000007 ∧
    (regValueAt s 0x64).toNat = s.cfg.pixBytes % 2 ^ 32 ∧ (s.cfg.pixBytes = 2 ^ 32 → regValueAt s 0x64 = 0)) ∧
  ∀ s t : State, step s = .next t → regValueAt t 0x00 = regValueAt s 0x00 ∧
    regValueAt t 0x04 = regValueAt s 0x04 ∧ regValueAt t 0x64 = regValueAt s 0x64

/-- R141: the value of every named register, with the fields of CTRL and STATUS in their places. -/
def Obligations.RegisterMapReads : Prop :=
  ∀ s : State,
    regValueAt s 0x00 = 0x4D4D4950 ∧ regValueAt s 0x04 = 0x00000007 ∧
    regValueAt s 0x64 = BitVec.ofNat 32 s.cfg.pixBytes ∧
    regValueAt s 0x08 = 0#30 ++ BitVec.ofBool s.ctrlIrqEn ++ 0#1 ∧
    regValueAt s 0x0C =
      0#16 ++ s.errCode ++ 0#3 ++ BitVec.ofBool s.lutAllValid ++ BitVec.ofBool s.wign ++ BitVec.ofBool s.err ++
        BitVec.ofBool s.done ++ BitVec.ofBool s.busy ∧
    (s.lutAllValid = true ↔ TableLoaded s) ∧
    regValueAt s 0x10 = s.cmdLast ∧ regValueAt s 0x14 = s.errInfo ∧ regValueAt s 0x18 = s.srcBase ∧
    regValueAt s 0x1C = 0#16 ++ s.srcW ∧ regValueAt s 0x20 = 0#16 ++ s.srcH ∧ regValueAt s 0x24 = 0#24 ++ s.srcC ∧
    regValueAt s 0x28 = s.dstBase ∧ regValueAt s 0x2C = 0#16 ++ s.dstW ∧ regValueAt s 0x30 = 0#16 ++ s.dstH ∧
    regValueAt s 0x34 = 0#16 ++ s.outW ∧ regValueAt s 0x38 = 0#16 ++ s.outH ∧ regValueAt s 0x3C = 0#24 ++ s.outC ∧
    regValueAt s 0x40 = s.gamma ∧ regValueAt s 0x44 = 0#24 ++ s.lutIndex ∧
    regValueAt s 0x48 = 0#24 ++ s.lutAt s.lutIndex ∧
    regValueAt s 0x4C = s.pbaX ∧ regValueAt s 0x50 = s.pbaY ∧ regValueAt s 0x54 = 0#24 ++ s.pbaCh ∧
    regValueAt s 0x58 = s.pbaAddr ∧ regValueAt s 0x5C = 0#24 ++ s.pbaData ∧ regValueAt s 0x60 = s.cmdCount

/-- R145, R98: a register read answers at once, busy or not, and changes nothing but the responses. -/
def Obligations.RegisterReadsHaveNoEffect : Prop :=
  ∀ (s : State) (off : Word), RegOffset off →
    s.hostTransaction (regRequest off .read) = answered s (.okayRead (regValueAt s off))

/-- R142: what a register write does: an error on a wrong size or alignment, R144's rule while BUSY = 1, and otherwise
the effect of each register. The soft reset and the LUT_DATA write have statements of their own. -/
def Obligations.RegisterWriteEffects : Prop :=
  ∀ (s : State) (d : Word),
    (∀ off n, off.toNat < 256 → n ≠ .four ∨ off.toNat % 4 ≠ 0 →
      s.hostTransaction { space := .reg, offset := off, size := n, access := .write d } = answered s .error) ∧
    (s.busy = true → ∀ off, RegOffset off →
      s.hostTransaction (regRequest off (.write d)) = answered (s.busyWrite off d) .okayWrite) ∧
    (s.busy = false →
      (d.getLsbD 0 = false →
        s.hostTransaction (regRequest 0x08 (.write d)) = answered { s with ctrlIrqEn := d.getLsbD 1 } .okayWrite) ∧
      (d.getLsbD 0 = true → s.hostTransaction (regRequest 0x08 (.write d)) = answered s.softReset .okayWrite) ∧
      s.hostTransaction (regRequest 0x0C (.write d)) =
        answered
          { s with
            done := s.done && !d.getLsbD 1
            err := s.err && !d.getLsbD 2
            wign := s.wign && !d.getLsbD 3 } .okayWrite ∧
      s.hostTransaction (regRequest 0x10 (.write d)) = answered { s with cmdLast := d, busy := true } .okayWrite ∧
      s.hostTransaction (regRequest 0x18 (.write d)) = answered { s with srcBase := d } .okayWrite ∧
      s.hostTransaction (regRequest 0x1C (.write d)) = answered { s with srcW := d.extractLsb' 0 16 } .okayWrite ∧
      s.hostTransaction (regRequest 0x20 (.write d)) = answered { s with srcH := d.extractLsb' 0 16 } .okayWrite ∧
      s.hostTransaction (regRequest 0x24 (.write d)) = answered { s with srcC := d.extractLsb' 0 8 } .okayWrite ∧
      s.hostTransaction (regRequest 0x28 (.write d)) = answered { s with dstBase := d } .okayWrite ∧
      s.hostTransaction (regRequest 0x2C (.write d)) = answered { s with dstW := d.extractLsb' 0 16 } .okayWrite ∧
      s.hostTransaction (regRequest 0x30 (.write d)) = answered { s with dstH := d.extractLsb' 0 16 } .okayWrite ∧
      s.hostTransaction (regRequest 0x40 (.write d)) = answered { s with gamma := d } .okayWrite ∧
      s.hostTransaction (regRequest 0x44 (.write d)) = answered { s with lutIndex := d.extractLsb' 0 8 } .okayWrite ∧
      s.hostTransaction (regRequest 0x48 (.write d)) = answered (s.writeLutData d) .okayWrite ∧
      s.hostTransaction (regRequest 0x4C (.write d)) = answered { s with pbaX := d } .okayWrite ∧
      s.hostTransaction (regRequest 0x50 (.write d)) = answered { s with pbaY := d } .okayWrite ∧
      s.hostTransaction (regRequest 0x54 (.write d)) = answered { s with pbaCh := d.extractLsb' 0 8 } .okayWrite ∧
      (∀ off, off ∈ [0x00, 0x04, 0x14, 0x34, 0x38, 0x3C, 0x58, 0x5C, 0x60, (0x64 : Word)] →
        s.hostTransaction (regRequest off (.write d)) = answered s .okayWrite) ∧
      ∀ off, RegOffset off → 0x68 ≤ off.toNat →
        s.hostTransaction (regRequest off (.write d)) = answered s .okayWrite)

/-- R40, R287: when a completion and a STATUS write fall in the same step, the completion's setting is applied after the
clear. The shared step is a turn of the model's (log entry 10). -/
def Obligations.CompletionSurvivesStatusWriteInTheSameStep : Prop :=
  ∀ (s : State) (d : Word) (ts : List Turn), s.busy = true → s.held = none →
    s.turns = .statusWriteAtCompletion d :: ts →
    step s =
      completeStep
        (answered
          { s with
            turns := ts
            done := s.done && !d.getLsbD 1
            err := s.err && !d.getLsbD 2
            wign := s.wign && !d.getLsbD 3 } .okayWrite) ∧
    ∃ t, step s = .next t ∧ t.busy = false ∧ t.wign = (s.wign && !d.getLsbD 3) ∧
      (t.errCode = 0 → t.done = true ∧ t.err = (s.err && !d.getLsbD 2)) ∧
      (t.errCode ≠ 0 → t.err = true ∧ t.done = (s.done && !d.getLsbD 1))

/-- R144: while BUSY = 1 every register write other than to STATUS is ignored and sets WIGN. -/
def Obligations.WritesWhileBusyAreIgnored : Prop :=
  ∀ (s : State) (off d : Word), s.busy = true → RegOffset off →
    (off ≠ 0x0C →
      s.hostTransaction (regRequest off (.write d)) = answered { s with wign := true } .okayWrite) ∧
    (off = 0x0C →
      s.hostTransaction (regRequest off (.write d)) =
        answered
          { s with
            done := s.done && !d.getLsbD 1
            err := s.err && !d.getLsbD 2
            wign := s.wign && !d.getLsbD 3 } .okayWrite)

/-- R49: the reserved offsets 0x68..0xFC. -/
def Obligations.ReservedOffsetsReadZeroIgnoreWrites : Prop :=
  ∀ (s : State) (off d : Word), RegOffset off → 0x68 ≤ off.toNat →
    s.hostTransaction (regRequest off .read) = answered s (.okayRead 0) ∧
    (s.busy = false → s.hostTransaction (regRequest off (.write d)) = answered s .okayWrite) ∧
    (s.busy = true →
      s.hostTransaction (regRequest off (.write d)) = answered { s with wign := true } .okayWrite)

/-- R160: a CMD write while BUSY = 0 stores the word and sets BUSY, for every word, and does nothing else. -/
def Obligations.IssueStoresTheWordAndNothingElse : Prop :=
  ∀ (s : State) (d : Word), s.busy = false →
    s.hostTransaction (regRequest 0x10 (.write d)) = answered { s with cmdLast := d, busy := true } .okayWrite

/-- R61, R62: LUT_INDEX stores bits [7:0] and selects the entry; a LUT_DATA write stores the entry, marks it valid and
advances the index mod 256; a read does not advance it. -/
def Obligations.LutDataWriteStoresAndAdvances : Prop :=
  ∀ (s : State) (d : Word), s.busy = false →
    s.hostTransaction (regRequest 0x44 (.write d)) = answered { s with lutIndex := d.extractLsb' 0 8 } .okayWrite ∧
    s.hostTransaction (regRequest 0x48 .read) = answered s (.okayRead (0#24 ++ s.lutAt s.lutIndex)) ∧
    (State.powerOn s.cfg).lutIndex = 0 ∧
    ∃ t, s.hostTransaction (regRequest 0x48 (.write d)) = t ∧
      t.lutIndex.toNat = (s.lutIndex.toNat + 1) % 256 ∧
      (∀ b : Byte, t.lutAt b = if b = s.lutIndex then d.extractLsb' 0 8 else s.lutAt b) ∧
      (∀ k, (h : k < 256) → t.lutValid[k] = if k = s.lutIndex.toNat then true else s.lutValid[k]) ∧
      t = answered { s with lutIndex := t.lutIndex, lut := t.lut, lutValid := t.lutValid } .okayWrite

/-- R43: the interrupt output, and 0 after any reset. -/
def Obligations.InterruptIsALevel : Prop :=
  (∀ s : State, s.irq = true ↔ s.ctrlIrqEn = true ∧ (s.done = true ∨ s.err = true)) ∧
  (∀ c : Config, (State.powerOn c).irq = false) ∧ ∀ s : State, s.softReset.irq = false ∧ s.hardReset.irq = false

/-- R146: a transaction the block decodes gets ERROR exactly in these cases, and then nothing else changes. A pixel
transaction is answered while BUSY = 0 (R147). -/
def Obligations.BusErrorExactlyOnIllFormedTransactions : Prop :=
  ∀ (s : State) (r : BusRequest), (r.space = .reg → r.offset.toNat < 256) → (r.space = .pix → s.busy = false) →
    ((s.hostTransaction r).responses = s.responses ++ [.error] ↔
      (r.space = .reg ∧ (r.size ≠ .four ∨ r.offset.toNat % 4 ≠ 0)) ∨
      (r.space = .pix ∧
        (r.size = .two ∨ (r.size = .four ∧ r.offset.toNat % 4 ≠ 0) ∨
          r.offset.toNat + r.size.bytes > s.cfg.pixBytes))) ∧
    ((s.hostTransaction r).responses = s.responses ++ [.error] → s.hostTransaction r = answered s .error)

/-! ## Pixel transactions -/

/-- R105, R147: with no transaction held, a step whose turn is the host's performs the host's transaction, register or
pixel. A pixel transaction issued while BUSY = 1 is held; the host's next transaction waits and the engine completes; the
held one is then performed by its own rule; a hard reset drops it. The turns and when the held one is performed are the
model's (log entries 5 and 9). -/
def Obligations.PixelTransactionsAreHeldWhileBusy : Prop :=
  ∀ (s : State) (r : BusRequest) (ts : List Turn),
    (s.held = none → s.turns = .host r :: ts → step s = .next ({ s with turns := ts }.hostTransaction r)) ∧
    (s.busy = true → s.held = none → r.space = .pix → s.turns = .host r :: ts →
      step s = .next { s with turns := ts, held := some r }) ∧
    (∀ q, s.busy = true → s.held = some r → s.turns = .host q :: ts → step s = completeStep s) ∧
    (s.busy = false → s.held = some r → (∀ us, s.turns ≠ .hardReset :: us) →
      step s = .next ({ s with held := none }.pixTransaction r)) ∧
    (s.held = some r → s.turns = .hardReset :: ts → ∃ t, step s = .next t ∧ t.held = none)

/-- R148, R150: the pixel reads, while BUSY = 0. -/
def Obligations.PixelReadsReturnMemory : Prop :=
  ∀ (s : State) (a : Word), s.busy = false →
    (a.toNat + 1 ≤ s.cfg.pixBytes →
      s.hostTransaction (pixRequest a .one .read) = answered s (.okayRead (0#24 ++ s.readPix a.toNat))) ∧
    (a.toNat + 1 > s.cfg.pixBytes → s.hostTransaction (pixRequest a .one .read) = answered s .error) ∧
    (a.toNat % 4 = 0 → a.toNat + 4 ≤ s.cfg.pixBytes →
      s.hostTransaction (pixRequest a .four .read) =
        answered s
          (.okayRead
            (s.readPix (a.toNat + 3) ++ s.readPix (a.toNat + 2) ++ s.readPix (a.toNat + 1) ++ s.readPix a.toNat))) ∧
    (a.toNat % 4 ≠ 0 ∨ a.toNat + 4 > s.cfg.pixBytes →
      s.hostTransaction (pixRequest a .four .read) = answered s .error)

/-- R149, R151: the pixel writes, while BUSY = 0: the bytes stored, every other byte and everything else unchanged. -/
def Obligations.PixelWritesStoreTheirBytesOnly : Prop :=
  ∀ (s : State) (a d : Word), s.busy = false →
    (a.toNat + 1 ≤ s.cfg.pixBytes →
      ∃ t, s.hostTransaction (pixRequest a .one (.write d)) = t ∧
        (∀ b, t.readPix b = if b = a.toNat then d.extractLsb' 0 8 else s.readPix b) ∧
        t = answered { s with pix := t.pix } .okayWrite) ∧
    (a.toNat + 1 > s.cfg.pixBytes → s.hostTransaction (pixRequest a .one (.write d)) = answered s .error) ∧
    (a.toNat % 4 = 0 → a.toNat + 4 ≤ s.cfg.pixBytes →
      ∃ t, s.hostTransaction (pixRequest a .four (.write d)) = t ∧
        t.readPix a.toNat = d.extractLsb' 0 8 ∧ t.readPix (a.toNat + 1) = d.extractLsb' 8 8 ∧
        t.readPix (a.toNat + 2) = d.extractLsb' 16 8 ∧ t.readPix (a.toNat + 3) = d.extractLsb' 24 8 ∧
        (∀ b, ¬(a.toNat ≤ b ∧ b < a.toNat + 4) → t.readPix b = s.readPix b) ∧
        t = answered { s with pix := t.pix } .okayWrite) ∧
    (a.toNat % 4 ≠ 0 ∨ a.toNat + 4 > s.cfg.pixBytes →
      s.hostTransaction (pixRequest a .four (.write d)) = answered s .error)

/-- R95: a byte read after a word write, a word read after byte writes; there is no other access width. -/
def Obligations.MixedWidthAccessesAreLittleEndian : Prop :=
  ∀ (s : State) (a v : Word), s.busy = false → a.toNat % 4 = 0 → a.toNat + 4 ≤ s.cfg.pixBytes →
    (∀ k, k < 4 →
      let t := s.hostTransaction (pixRequest a .four (.write v))
      (t.hostTransaction (pixRequest (BitVec.ofNat 32 (a.toNat + k)) .one .read)).responses =
        t.responses ++ [.okayRead (0#24 ++ v.extractLsb' (8 * k) 8)]) ∧
    (∀ v0 v1 v2 v3 : Byte,
      let t0 := s.hostTransaction (pixRequest a .one (.write (0#24 ++ v0)))
      let t1 := t0.hostTransaction (pixRequest (BitVec.ofNat 32 (a.toNat + 1)) .one (.write (0#24 ++ v1)))
      let t2 := t1.hostTransaction (pixRequest (BitVec.ofNat 32 (a.toNat + 2)) .one (.write (0#24 ++ v2)))
      let t3 := t2.hostTransaction (pixRequest (BitVec.ofNat 32 (a.toNat + 3)) .one (.write (0#24 ++ v3)))
      (t3.hostTransaction (pixRequest a .four .read)).responses =
        t3.responses ++ [.okayRead (v3 ++ v2 ++ v1 ++ v0)]) ∧
    (∀ acc, s.hostTransaction (pixRequest a .two acc) = answered s .error)

/-- R161: while BUSY = 1 a host transaction changes only DONE, ERR and WIGN, the hold and the responses: no operand,
result, table entry or pixel byte. -/
def Obligations.HostCannotDisturbARunningCommand : Prop :=
  ∀ (s : State) (r : BusRequest), s.busy = true →
    ∃ t, s.hostTransaction r = t ∧
      t = { s with done := t.done, err := t.err, wign := t.wign, held := t.held, responses := t.responses }

/-! ## Completion -/

/-- R173: an error completion writes exactly ERR_CODE, ERR_INFO, ERR, CMD_COUNT and BUSY. -/
def Obligations.ErrorCompletionWritesExactly : Prop :=
  ∀ s : State,
    (∀ i e, validate i s = some e → exec i s = .next (failed s e.code e.info)) ∧
    (decode s.cmdLast = none → completeStep s = .next (failed s 0x02 s.cmdLast))

/-- R163, R42, R56: every completion clears BUSY and counts; without error ERR_CODE and ERR_INFO are 0 and DONE is set, ERR
as before; with an error ERR is set and DONE as before, and no pixel byte, table entry, OUT_* or PBA_* changes. -/
def Obligations.EveryCompletionReportsAndCounts : Prop :=
  ∀ (i : Instr) (s : State),
    ∃ t, exec i s = .next t ∧ t.busy = false ∧ t.cmdCount = s.cmdCount + 1 ∧
      ((t.errCode = 0 ∧ t.errInfo = 0 ∧ t.done = true ∧ t.err = s.err) ∨
        (1 ≤ t.errCode.toNat ∧ t.errCode.toNat ≤ 6 ∧ t.err = true ∧ t.done = s.done ∧
          (∀ a, t.readPix a = s.readPix a) ∧ t.lut = s.lut ∧ t.lutValid = s.lutValid ∧
          t.outW = s.outW ∧ t.outH = s.outH ∧ t.outC = s.outC ∧ t.pbaAddr = s.pbaAddr ∧ t.pbaData = s.pbaData))

/-- R281, R30: no command changes an operand, a control field, CMD_LAST or LUT_INDEX, and only the build commands change
the table. -/
def Obligations.CommandsLeaveOperandsAlone : Prop :=
  ∀ (i : Instr) (s t : State), exec i s = .next t →
    t = { s with
      busy := t.busy, done := t.done, err := t.err, errCode := t.errCode, errInfo := t.errInfo,
      cmdCount := t.cmdCount, outW := t.outW, outH := t.outH, outC := t.outC, lut := t.lut,
      lutValid := t.lutValid, pbaAddr := t.pbaAddr, pbaData := t.pbaData, pix := t.pix } ∧
    (i ∉ [.lutNeg, .lutLog, .lutGamma] → t.lut = s.lut ∧ t.lutValid = s.lutValid)

/-- R102, R193: whatever command completes, and however, no byte outside its destination region changes, and no byte of
the source region. -/
def Obligations.CommandsWriteOnlyTheirDestination : Prop :=
  ∀ (i : Instr) (s t : State), exec i s = .next t →
    (∀ a, ¬InDestination s i a → t.readPix a = s.readPix a) ∧ (∀ a, InSource s a → t.readPix a = s.readPix a)

/-- R282: which command can complete with which error: no other error ever, and each listed one in some state; an undefined
word completes with UNKNOWN_OPERATION and nothing else. -/
def Obligations.ErrorsEachCommandCanRaise : Prop :=
  (∀ i s e, validate i s = some e → mayRaise i e = true) ∧
  (∀ i e, mayRaise i e = true → ∃ s, validate i s = some e ∧ exec i s = .next (failed s e.code e.info)) ∧
  ∀ s : State, decode s.cmdLast = none → completeStep s = .next (failed s 0x02 s.cmdLast)

/-- R166: V2 in its order, for every command that reads the source descriptor. -/
def Obligations.SourceDimensionsAreChecked : Prop :=
  ∀ (i : Instr) (s : State), i ∈ [.lutApply, .gray, .rsNearest, .rsBilinear, .addrRaw, .addrClamp] →
    (s.srcW.toNat = 0 → exec i s = .next (failed s 0x01 1)) ∧
    (s.srcW.toNat ≠ 0 → s.srcH.toNat = 0 → exec i s = .next (failed s 0x01 2)) ∧
    (s.srcW.toNat ≠ 0 → s.srcH.toNat ≠ 0 → s.srcC.toNat ≠ 1 → s.srcC.toNat ≠ 3 →
      exec i s = .next (failed s 0x01 3))

/-- R167: V3 in its order, for the resampling commands, after V2 has passed. -/
def Obligations.TargetDimensionsAreChecked : Prop :=
  ∀ (i : Instr) (s : State), i ∈ [.rsNearest, .rsBilinear] → SourceLegal s →
    (s.dstW.toNat = 0 → exec i s = .next (failed s 0x01 4)) ∧
    (s.dstW.toNat ≠ 0 → s.dstH.toNat = 0 → exec i s = .next (failed s 0x01 5))

/-- R171: V4 reports the lowest index whose valid bit is 0, after V2 has passed. -/
def Obligations.LowestUnloadedEntryIsReported : Prop :=
  ∀ (s : State) (k : Nat) (h : k < 256), SourceLegal s → s.lutValid[k] = false →
    (∀ j, (hj : j < k) → s.lutValid[j] = true) → exec .lutApply s = .next (failed s 0x03 (BitVec.ofNat 32 k))

/-- R168, R169: V5, V6 and V7 in their order, after the earlier checks have passed; equal bases always overlap. -/
def Obligations.RegionsAreChecked : Prop :=
  ∀ (i : Instr) (s : State), DimensionsLegal s i →
    (i ∈ [.lutApply, .gray, .rsNearest, .rsBilinear, .addrRaw, .addrClamp] → ¬SourceFits s →
      exec i s = .next (failed s 0x04 1)) ∧
    (writesBuffer i = true → SourceFits s → ¬DestinationFits s (destinationSize s i) →
      exec i s = .next (failed s 0x04 2)) ∧
    (writesBuffer i = true → SourceFits s → DestinationFits s (destinationSize s i) →
      ¬RegionsDisjoint s (destinationSize s i) → exec i s = .next (failed s 0x05 0)) ∧
    (writesBuffer i = true → s.srcBase = s.dstBase → ¬RegionsDisjoint s (destinationSize s i))

/-- R46: OUT_* are written by a successful buffer-producing completion, with that buffer's shape, and otherwise change only
to 0, by a reset: over a step they stay as they were, or the step is a hard or a soft reset, or it is such a completion.
When a soft reset is performed is R39's and R311's, what a completion sets R163's. The turns by which a reset comes, and that a
host turn comes only while nothing is held, are the model's (log entries 5 and 9). -/
def Obligations.OutputRegistersDescribeTheLastBuffer : Prop :=
  (∀ (i : Instr) (s t : State), exec i s = .next t →
    (writesBuffer i = true → t.errCode = 0 →
      t.outW.toNat * t.outH.toNat * t.outC.toNat = destinationSize s i ∧
      (t.outW = if i ∈ [.lutApply, .gray] then s.srcW else s.dstW) ∧
      (t.outH = if i ∈ [.lutApply, .gray] then s.srcH else s.dstH) ∧
      (t.outC = if i = .gray then 1 else s.srcC)) ∧
    (writesBuffer i = false ∨ t.errCode ≠ 0 → t.outW = s.outW ∧ t.outH = s.outH ∧ t.outC = s.outC)) ∧
  ∀ s t : State, step s = .next t →
    (t.outW = s.outW ∧ t.outH = s.outH ∧ t.outC = s.outC) ∨
    (t.outW = 0 ∧ t.outH = 0 ∧ t.outC = 0 ∧
      ((∃ ts, s.turns = .hardReset :: ts) ∨
        (s.busy = false ∧ s.held = none ∧
          ∃ d ts, d.getLsbD 0 = true ∧ s.turns = .host (regRequest 0x08 (.write d)) :: ts))) ∨
    (s.busy = true ∧ t.busy = false ∧ t.cmdCount = s.cmdCount + 1 ∧ t.done = true ∧ t.errCode = 0 ∧
      ∃ i, decode s.cmdLast = some i ∧ writesBuffer i = true ∧
        (t.outW = if i ∈ [.lutApply, .gray] then s.srcW else s.dstW) ∧
        (t.outH = if i ∈ [.lutApply, .gray] then s.srcH else s.dstH) ∧
        (t.outC = if i = .gray then 1 else s.srcC))

/-- R322: GAMMA is read only by LUT.GAMMA: any other command does the same whatever GAMMA holds. -/
def Obligations.GammaIsReadOnlyByLutGamma : Prop :=
  ∀ (i : Instr) (s t : State) (g : Word), i ≠ .lutGamma → exec i s = .next t →
    exec i { s with gamma := g } = .next { t with gamma := g }

/-! ## NOP and the build commands -/

/-- R170: the word 0 is NOP, which completes without error and with no effect of its own, the neighbouring word 0x10 is
undefined, and from reset NOP leaves STATUS = 0x00000002 and CMD_COUNT = 1. -/
def Obligations.NopCompletes : Prop :=
  decode 0x00000000 = some .nop ∧ decode 0x00000010 = none ∧
  (∀ s : State, exec .nop s = .next (succeeded s)) ∧
  ∀ c : Config, regValueAt (succeeded (State.powerOn c)) 0x0C = 0x00000002 ∧
    (succeeded (State.powerOn c)).cmdCount = 1

/-- R222, R220: LUT.NEG writes 255 - r in every entry, sets every valid bit and changes nothing else but the status. -/
def Obligations.LutNegBuildsTheNegativeTable : Prop :=
  decode 0x00000001 = some .lutNeg ∧
  ∀ s : State, ∃ t, exec .lutNeg s = .next t ∧
    (∀ b : Byte, (t.lutAt b).toNat = 255 - b.toNat) ∧ (∀ b : Byte, t.lutAt (t.lutAt b) = b) ∧ TableLoaded t ∧
    t.lutAllValid = true ∧ (∀ a, t.readPix a = s.readPix a) ∧
    t = succeeded { s with lut := t.lut, lutValid := t.lutValid }

/-- R223: LUT.LOG writes `floor(255 * ln(1 + r) / ln(256) + 1/2)` over the reals in every entry. -/
def Obligations.LutLogMatchesTheRealLogarithm : Prop :=
  ∀ s : State, ∃ t, exec .lutLog s = .next t ∧
    (∀ b : Byte, ((t.lutAt b).toNat : ℤ) = ⌊255 / Real.log 256 * Real.log (1 + (b.toNat : ℝ)) + 1 / 2⌋) ∧
    TableLoaded t ∧ t.lutAllValid = true ∧ (∀ a, t.readPix a = s.readPix a) ∧
    t = succeeded { s with lut := t.lut, lutValid := t.lutValid }

/-- R224: LUT.GAMMA writes `floor(255 * (r/255)^g + 1/2)` over the reals in every entry r >= 1, and 0 in entry 0, for every
value of GAMMA; a value <= 0 is substituted by 1. -/
def Obligations.LutGammaMatchesTheRealPower : Prop :=
  ∀ s : State, ∃ t, exec .lutGamma s = .next t ∧
    t.lutAt 0 = 0 ∧
    (∀ b : Byte, 1 ≤ b.toNat →
      ((t.lutAt b).toNat : ℤ) = ⌊255 * ((b.toNat : ℝ) / 255) ^ (gammaReal s) + 1 / 2⌋) ∧
    TableLoaded t ∧ t.lutAllValid = true ∧ (∀ a, t.readPix a = s.readPix a) ∧
    t = succeeded { s with lut := t.lut, lutValid := t.lutValid }

/-- R227: both mappings are non-decreasing and fix 0 and 255, and the gamma mapping is the identity for g = 1, at most r for
g > 1 and at least r for g < 1. -/
def Obligations.PointMappingLaws : Prop :=
  (∀ p q, 1 ≤ p → 1 ≤ q →
    gammaValue p q 0 = 0 ∧ gammaValue p q 255 = 255 ∧
    (∀ r r', r ≤ r' → r' ≤ 255 → gammaValue p q r ≤ gammaValue p q r') ∧
    (p = q → ∀ r, r ≤ 255 → gammaValue p q r = r) ∧
    (q < p → ∀ r, r ≤ 255 → gammaValue p q r ≤ r) ∧
    (p < q → ∀ r, r ≤ 255 → r ≤ gammaValue p q r)) ∧
  (logEntry 0 = 0 ∧ logEntry 255 = 255 ∧
    ∀ r r', r ≤ r' → r' ≤ 255 → (logEntry r).toNat ≤ (logEntry r').toNat)

/-! ## The buffer-producing commands -/

/-- R226: LUT.APPLY maps every byte of the source through the table; the source, every other byte, the table and the other
registers are unchanged. -/
def Obligations.LutApplyMapsEveryByte : Prop :=
  ∀ s : State, BufferLegal s .lutApply → TableLoaded s →
    ∃ t, exec .lutApply s = .next t ∧
      (∀ k, k < sourceSize s → t.readPix (s.dstBase.toNat + k) = s.lutAt (s.readPix (s.srcBase.toNat + k))) ∧
      (∀ a, ¬InDestination s .lutApply a → t.readPix a = s.readPix a) ∧
      t = produced s t.pix s.srcW s.srcH s.srcC

/-- R211, R210: GRAY copies a one-channel source and reduces a three-channel source to its luma, rounded half up over the
rationals. -/
def Obligations.GrayWritesCopyOrLuma : Prop :=
  ∀ s : State, BufferLegal s .gray →
    ∃ t, exec .gray s = .next t ∧
      (∀ x y, x < s.srcW.toNat → y < s.srcH.toNat →
        (s.srcC.toNat = 1 →
          t.readPix (s.dstBase.toNat + (y * s.srcW.toNat + x)) =
            s.readPix (s.srcBase.toNat + (y * s.srcW.toNat + x))) ∧
        (s.srcC.toNat = 3 →
          ((t.readPix (s.dstBase.toNat + (y * s.srcW.toNat + x))).toNat : ℤ) =
            ⌊(299 * ((s.readPix (s.srcBase.toNat + (y * s.srcW.toNat + x) * 3)).toNat : ℚ) +
                587 * ((s.readPix (s.srcBase.toNat + (y * s.srcW.toNat + x) * 3 + 1)).toNat : ℚ) +
                114 * ((s.readPix (s.srcBase.toNat + (y * s.srcW.toNat + x) * 3 + 2)).toNat : ℚ)) / 1000 +
              1 / 2⌋)) ∧
      (∀ a, ¬InDestination s .gray a → t.readPix a = s.readPix a) ∧
      t = produced s t.pix s.srcW s.srcH 1

/-- R212: the luma laws. -/
def Obligations.LumaLaws : Prop :=
  (∀ v, v ≤ 255 → luma v v v = v) ∧
  (∀ r g b r' g' b', r ≤ r' → g ≤ g' → b ≤ b' → luma r g b ≤ luma r' g' b') ∧
  (∀ r g b, r ≤ 255 → g ≤ 255 → b ≤ 255 → luma r g b ≤ 255) ∧
  (∀ r g b : Nat,
    ((299 * (r : ℚ) + 587 * g + 114 * b) / 1000 + 1 / 2 = ⌊(299 * (r : ℚ) + 587 * g + 114 * b) / 1000 + 1 / 2⌋ ↔
      (299 * r + 587 * g + 114 * b) % 1000 = 500) ∧
    ((299 * r + 587 * g + 114 * b) % 1000 = 500 → luma r g b = (299 * r + 587 * g + 114 * b) / 1000 + 1)) ∧
  luma 0 0 250 = 29

/-- R253, R251, R250: RS.NEAREST copies, for each output pixel, the whole channel tuple of the source pixel at
`floor(x*sx + 1/2)`, `floor(y*sy + 1/2)` clamped into range. -/
def Obligations.NearestCopiesTheNearestPixel : Prop :=
  ∀ s : State, BufferLegal s .rsNearest → TargetLegal s →
    ∃ t, exec .rsNearest s = .next t ∧
      (∀ x y ch, x < s.dstW.toNat → y < s.dstH.toNat → ch < s.srcC.toNat →
        t.readPix (s.dstBase.toNat + (y * s.dstW.toNat + x) * s.srcC.toNat + ch) =
          s.readPix
            (s.srcBase.toNat +
              (nearestIndex y s.srcH.toNat s.dstH.toNat * s.srcW.toNat +
                nearestIndex x s.srcW.toNat s.dstW.toNat) * s.srcC.toNat + ch)) ∧
      (∀ a, ¬InDestination s .rsNearest a → t.readPix a = s.readPix a) ∧
      t = produced s t.pix s.dstW s.dstH s.srcC

/-- R257, R254, R258: RS.BILINEAR writes, for each output sample, the source's formula over the rationals rounded half up
once. -/
def Obligations.BilinearMatchesTheRationalFormula : Prop :=
  ∀ s : State, BufferLegal s .rsBilinear → TargetLegal s →
    ∃ t, exec .rsBilinear s = .next t ∧
      (∀ x y ch, x < s.dstW.toNat → y < s.dstH.toNat → ch < s.srcC.toNat →
        ((t.readPix (s.dstBase.toNat + (y * s.dstW.toNat + x) * s.srcC.toNat + ch)).toNat : ℤ) =
          ⌊bilinearValue s x y ch + 1 / 2⌋) ∧
      (∀ a, ¬InDestination s .rsBilinear a → t.readPix a = s.readPix a) ∧
      t = produced s t.pix s.dstW s.dstH s.srcC

/-- R259: every output sample of RS.BILINEAR lies between any bounds of its own four samples. -/
def Obligations.BilinearStaysWithinItsSamples : Prop :=
  ∀ (s t : State) (x y ch lo hi : Nat), BufferLegal s .rsBilinear → TargetLegal s → exec .rsBilinear s = .next t →
    x < s.dstW.toNat → y < s.dstH.toNat → ch < s.srcC.toNat →
    (∀ dx dy : ℤ, (dx = 0 ∨ dx = 1) → (dy = 0 ∨ dy = 1) →
      lo ≤ edgeSample s (⌊axisPosition x s.srcW.toNat s.dstW.toNat⌋ + dx)
          (⌊axisPosition y s.srcH.toNat s.dstH.toNat⌋ + dy) ch ∧
        edgeSample s (⌊axisPosition x s.srcW.toNat s.dstW.toNat⌋ + dx)
          (⌊axisPosition y s.srcH.toNat s.dstH.toNat⌋ + dy) ch ≤ hi) →
    lo ≤ (t.readPix (s.dstBase.toNat + (y * s.dstW.toNat + x) * s.srcC.toNat + ch)).toNat ∧
      (t.readPix (s.dstBase.toNat + (y * s.dstW.toNat + x) * s.srcC.toNat + ch)).toNat ≤ hi

/-- R252, R259: resampling a buffer to its own dimensions reproduces it exactly, by either method. -/
def Obligations.ResamplingToTheSameSizeIsTheIdentity : Prop :=
  ∀ (i : Instr) (s : State), i ∈ [.rsNearest, .rsBilinear] → BufferLegal s i → TargetLegal s →
    s.dstW = s.srcW → s.dstH = s.srcH →
    ∃ t, exec i s = .next t ∧
      ∀ k, k < sourceSize s → t.readPix (s.dstBase.toNat + k) = s.readPix (s.srcBase.toNat + k)

/-- R255: the range of the bilinear neighbours and what the clamp can change. -/
def Obligations.AxisNeighbourRange : Prop :=
  ∀ i n out : Nat, i < out → 1 ≤ n →
    (axis i n out).a < (axis i n out).dn ∧
    -1 ≤ (axis i n out).i0 ∧ (axis i n out).i0 ≤ n - 1 ∧
    0 ≤ (axis i n out).i0 + 1 ∧ (axis i n out).i0 + 1 ≤ n ∧
    (clamp (axis i n out).i0 0 (n - 1) ≠ (axis i n out).i0 → (axis i n out).i0 = -1) ∧
    (clamp ((axis i n out).i0 + 1) 0 (n - 1) ≠ (axis i n out).i0 + 1 → (axis i n out).i0 + 1 = n) ∧
    ((axis i n out).i0 = -1 ∨ (axis i n out).i0 + 1 = n →
      clamp (axis i n out).i0 0 (n - 1) = clamp ((axis i n out).i0 + 1) 0 (n - 1))

/-- R227 and the source's property 1: LUT.NEG, then LUT.APPLY twice with the first destination as the second source,
restores the buffer. The host's register writes between the commands are written out. -/
def Obligations.NegatingTwiceRestoresTheBuffer : Prop :=
  ∀ (s : State) (d2 : Word), BufferLegal s .lutApply →
    ∃ t1, exec .lutNeg s = .next t1 ∧
    ∃ t2, exec .lutApply t1 = .next t2 ∧
      (BufferLegal { t2 with srcBase := s.dstBase, dstBase := d2 } .lutApply →
        ∃ t3, exec .lutApply { t2 with srcBase := s.dstBase, dstBase := d2 } = .next t3 ∧
          ∀ k, k < sourceSize s → t3.readPix (d2.toNat + k) = s.readPix (s.srcBase.toNat + k))

/-- R251 to R253 and the source's property 9, for every size: doubling a buffer by RS.NEAREST and halving the result
restores the buffer. -/
def Obligations.NearestDoublingThenHalvingRestores : Prop :=
  ∀ (s : State) (d2 : Word), BufferLegal s .rsNearest → s.dstW.toNat = 2 * s.srcW.toNat →
    s.dstH.toNat = 2 * s.srcH.toNat →
    ∃ t1, exec .rsNearest s = .next t1 ∧
      (BufferLegal { t1 with srcBase := s.dstBase, srcW := s.dstW, srcH := s.dstH, dstBase := d2, dstW := s.srcW, dstH := s.srcH } .rsNearest →
        ∃ t2, exec .rsNearest { t1 with srcBase := s.dstBase, srcW := s.dstW, srcH := s.dstH, dstBase := d2, dstW := s.srcW, dstH := s.srcH } = .next t2 ∧
          ∀ k, k < sourceSize s → t2.readPix (d2.toNat + k) = s.readPix (s.srcBase.toNat + k))

/-! ## The addresser -/

/-- R191: the address function is a bijection from the in-range triples onto the region, with row stride w*c and pixel
stride c, and if the region fits every address is below PIX_BYTES and fits in 32 bits. -/
def Obligations.AddressIsABijection : Prop :=
  ∀ d : Desc,
    (∀ x y ch, x < d.w → y < d.h → ch < d.c →
      d.base ≤ d.addr x y ch ∧ d.addr x y ch < d.base + d.size ∧
      d.addr x (y + 1) ch = d.addr x y ch + d.w * d.c ∧ d.addr (x + 1) y ch = d.addr x y ch + d.c ∧
      ∀ x' y' ch', x' < d.w → y' < d.h → ch' < d.c → d.addr x y ch = d.addr x' y' ch' →
        x = x' ∧ y = y' ∧ ch = ch') ∧
    (∀ a, d.base ≤ a → a < d.base + d.size → ∃ x y ch, x < d.w ∧ y < d.h ∧ ch < d.c ∧ d.addr x y ch = a) ∧
    (∀ c : Config, d.base + d.size ≤ c.pixBytes → ∀ x y ch, x < d.w → y < d.h → ch < d.c →
      d.addr x y ch < c.pixBytes ∧ d.addr x y ch < 2 ^ 32)

/-- R194: ADDR.RAW, each error in its order and the address and sample otherwise, after V2 and V5 have passed. -/
def Obligations.AddrRawReadsTheAddressedSample : Prop :=
  ∀ s : State, SourceLegal s → SourceFits s →
    (s.pbaX.toInt < 0 ∨ (s.srcW.toNat : ℤ) ≤ s.pbaX.toInt → exec .addrRaw s = .next (failed s 0x06 1)) ∧
    (0 ≤ s.pbaX.toInt → s.pbaX.toInt < s.srcW.toNat → s.pbaY.toInt < 0 ∨ (s.srcH.toNat : ℤ) ≤ s.pbaY.toInt →
      exec .addrRaw s = .next (failed s 0x06 2)) ∧
    (0 ≤ s.pbaX.toInt → s.pbaX.toInt < s.srcW.toNat → 0 ≤ s.pbaY.toInt → s.pbaY.toInt < s.srcH.toNat →
      (s.srcC.toNat ≤ s.pbaCh.toNat → exec .addrRaw s = .next (failed s 0x06 3)) ∧
      (s.pbaCh.toNat < s.srcC.toNat →
        ∃ t, exec .addrRaw s = .next t ∧
          (t.pbaAddr.toNat : ℤ) =
            s.srcBase.toNat + (s.pbaY.toInt * s.srcW.toNat + s.pbaX.toInt) * s.srcC.toNat + s.pbaCh.toNat ∧
          t.pbaAddr.toNat < s.cfg.pixBytes ∧ t.pbaData = s.readPix t.pbaAddr.toNat ∧
          (∀ a, t.readPix a = s.readPix a) ∧
          t = succeeded { s with pbaAddr := t.pbaAddr, pbaData := t.pbaData }))

/-- R195: ADDR.CLAMP, for every X and Y, after V2 and V5 have passed. -/
def Obligations.AddrClampReadsTheEdgeSample : Prop :=
  ∀ s : State, SourceLegal s → SourceFits s →
    (s.srcC.toNat ≤ s.pbaCh.toNat → exec .addrClamp s = .next (failed s 0x06 3)) ∧
    (s.pbaCh.toNat < s.srcC.toNat →
      ∃ t, exec .addrClamp s = .next t ∧
        t.pbaAddr.toNat =
          s.srcBase.toNat +
            (edge s.pbaY.toInt s.srcH.toNat * s.srcW.toNat + edge s.pbaX.toInt s.srcW.toNat) * s.srcC.toNat +
            s.pbaCh.toNat ∧
        t.pbaAddr.toNat < s.cfg.pixBytes ∧
        t.pbaData.toNat = edgeSample s s.pbaX.toInt s.pbaY.toInt s.pbaCh.toNat ∧
        (∀ a, t.readPix a = s.readPix a) ∧
        t = succeeded { s with pbaAddr := t.pbaAddr, pbaData := t.pbaData })

/-- R196: an ADDR command writes only PBA_ADDR and PBA_DATA besides the status, ERR_INFO and CMD_COUNT, and does not read
DST_BASE, DST_W and DST_H. -/
def Obligations.AddrCommandsWriteOnlyPba : Prop :=
  ∀ (i : Instr) (s t : State), i ∈ [.addrRaw, .addrClamp] → exec i s = .next t →
    t = { s with
      busy := t.busy, done := t.done, err := t.err, errCode := t.errCode, errInfo := t.errInfo,
      cmdCount := t.cmdCount, pbaAddr := t.pbaAddr, pbaData := t.pbaData } ∧
    ∀ (b : Word) (w h : Half),
      exec i { s with dstBase := b, dstW := w, dstH := h } = .next { t with dstBase := b, dstW := w, dstH := h }

/-! ## The idle block -/

/-- R314, R161: an idle block with nothing held waits. With no turn left the state stays as it is; an engine's turn is used
up with no effect, because a completion is enabled only while BUSY = 1; and the STATUS write of a step in which nothing
completes is an ordinary one. The turns are the model's (log entries 5, 8 and 10). -/
def Obligations.IdleBlockWaits : Prop :=
  ∀ s : State, s.busy = false → s.held = none →
    (s.turns = [] → step s = .next s) ∧
    (∀ ts, s.turns = .engine :: ts → step s = .next { s with turns := ts }) ∧
    (∀ d ts, s.turns = .statusWriteAtCompletion d :: ts →
      step s = .next ({ s with turns := ts }.hostTransaction (regRequest 0x0C (.write d))))
end

