-- ==== Sys2Proof/Laws/State.lean ====
section
/-! SUPPORT. What each state update does to each field, true by definition, so that no later proof unfolds a record
update. -/

namespace Sys2Proof.Machine

/-! ### `State.completeOk` -/

@[simp] theorem completeOk_ctrlIrqEn (s : State) : s.completeOk.ctrlIrqEn = s.ctrlIrqEn := rfl
@[simp] theorem completeOk_busy (s : State) : s.completeOk.busy = false := rfl
@[simp] theorem completeOk_done (s : State) : s.completeOk.done = true := rfl
@[simp] theorem completeOk_err (s : State) : s.completeOk.err = s.err := rfl
@[simp] theorem completeOk_wign (s : State) : s.completeOk.wign = s.wign := rfl
@[simp] theorem completeOk_errCode (s : State) : s.completeOk.errCode = 0 := rfl
@[simp] theorem completeOk_cmdLast (s : State) : s.completeOk.cmdLast = s.cmdLast := rfl
@[simp] theorem completeOk_errInfo (s : State) : s.completeOk.errInfo = 0 := rfl
@[simp] theorem completeOk_srcBase (s : State) : s.completeOk.srcBase = s.srcBase := rfl
@[simp] theorem completeOk_srcW (s : State) : s.completeOk.srcW = s.srcW := rfl
@[simp] theorem completeOk_srcH (s : State) : s.completeOk.srcH = s.srcH := rfl
@[simp] theorem completeOk_srcC (s : State) : s.completeOk.srcC = s.srcC := rfl
@[simp] theorem completeOk_dstBase (s : State) : s.completeOk.dstBase = s.dstBase := rfl
@[simp] theorem completeOk_dstW (s : State) : s.completeOk.dstW = s.dstW := rfl
@[simp] theorem completeOk_dstH (s : State) : s.completeOk.dstH = s.dstH := rfl
@[simp] theorem completeOk_outW (s : State) : s.completeOk.outW = s.outW := rfl
@[simp] theorem completeOk_outH (s : State) : s.completeOk.outH = s.outH := rfl
@[simp] theorem completeOk_outC (s : State) : s.completeOk.outC = s.outC := rfl
@[simp] theorem completeOk_gamma (s : State) : s.completeOk.gamma = s.gamma := rfl
@[simp] theorem completeOk_lutIndex (s : State) : s.completeOk.lutIndex = s.lutIndex := rfl
@[simp] theorem completeOk_lut (s : State) : s.completeOk.lut = s.lut := rfl
@[simp] theorem completeOk_lutValid (s : State) : s.completeOk.lutValid = s.lutValid := rfl
@[simp] theorem completeOk_pbaX (s : State) : s.completeOk.pbaX = s.pbaX := rfl
@[simp] theorem completeOk_pbaY (s : State) : s.completeOk.pbaY = s.pbaY := rfl
@[simp] theorem completeOk_pbaCh (s : State) : s.completeOk.pbaCh = s.pbaCh := rfl
@[simp] theorem completeOk_pbaAddr (s : State) : s.completeOk.pbaAddr = s.pbaAddr := rfl
@[simp] theorem completeOk_pbaData (s : State) : s.completeOk.pbaData = s.pbaData := rfl
@[simp] theorem completeOk_cmdCount (s : State) : s.completeOk.cmdCount = s.cmdCount + 1 := rfl
@[simp] theorem completeOk_pix (s : State) : s.completeOk.pix = s.pix := rfl
@[simp] theorem completeOk_held (s : State) : s.completeOk.held = s.held := rfl
@[simp] theorem completeOk_turns (s : State) : s.completeOk.turns = s.turns := rfl
@[simp] theorem completeOk_responses (s : State) : s.completeOk.responses = s.responses := rfl
@[simp] theorem completeOk_draws (s : State) : s.completeOk.draws = s.draws := rfl
@[simp] theorem completeOk_cfg (s : State) : s.completeOk.cfg = s.cfg := rfl

/-! ### `State.completeError` -/

@[simp] theorem completeError_ctrlIrqEn (s : State) (e : CmdError) : (s.completeError e).ctrlIrqEn = s.ctrlIrqEn := rfl
@[simp] theorem completeError_busy (s : State) (e : CmdError) : (s.completeError e).busy = false := rfl
@[simp] theorem completeError_done (s : State) (e : CmdError) : (s.completeError e).done = s.done := rfl
@[simp] theorem completeError_err (s : State) (e : CmdError) : (s.completeError e).err = true := rfl
@[simp] theorem completeError_wign (s : State) (e : CmdError) : (s.completeError e).wign = s.wign := rfl
@[simp] theorem completeError_errCode (s : State) (e : CmdError) : (s.completeError e).errCode = e.code := rfl
@[simp] theorem completeError_cmdLast (s : State) (e : CmdError) : (s.completeError e).cmdLast = s.cmdLast := rfl
@[simp] theorem completeError_errInfo (s : State) (e : CmdError) : (s.completeError e).errInfo = e.info := rfl
@[simp] theorem completeError_srcBase (s : State) (e : CmdError) : (s.completeError e).srcBase = s.srcBase := rfl
@[simp] theorem completeError_srcW (s : State) (e : CmdError) : (s.completeError e).srcW = s.srcW := rfl
@[simp] theorem completeError_srcH (s : State) (e : CmdError) : (s.completeError e).srcH = s.srcH := rfl
@[simp] theorem completeError_srcC (s : State) (e : CmdError) : (s.completeError e).srcC = s.srcC := rfl
@[simp] theorem completeError_dstBase (s : State) (e : CmdError) : (s.completeError e).dstBase = s.dstBase := rfl
@[simp] theorem completeError_dstW (s : State) (e : CmdError) : (s.completeError e).dstW = s.dstW := rfl
@[simp] theorem completeError_dstH (s : State) (e : CmdError) : (s.completeError e).dstH = s.dstH := rfl
@[simp] theorem completeError_outW (s : State) (e : CmdError) : (s.completeError e).outW = s.outW := rfl
@[simp] theorem completeError_outH (s : State) (e : CmdError) : (s.completeError e).outH = s.outH := rfl
@[simp] theorem completeError_outC (s : State) (e : CmdError) : (s.completeError e).outC = s.outC := rfl
@[simp] theorem completeError_gamma (s : State) (e : CmdError) : (s.completeError e).gamma = s.gamma := rfl
@[simp] theorem completeError_lutIndex (s : State) (e : CmdError) : (s.completeError e).lutIndex = s.lutIndex := rfl
@[simp] theorem completeError_lut (s : State) (e : CmdError) : (s.completeError e).lut = s.lut := rfl
@[simp] theorem completeError_lutValid (s : State) (e : CmdError) : (s.completeError e).lutValid = s.lutValid := rfl
@[simp] theorem completeError_pbaX (s : State) (e : CmdError) : (s.completeError e).pbaX = s.pbaX := rfl
@[simp] theorem completeError_pbaY (s : State) (e : CmdError) : (s.completeError e).pbaY = s.pbaY := rfl
@[simp] theorem completeError_pbaCh (s : State) (e : CmdError) : (s.completeError e).pbaCh = s.pbaCh := rfl
@[simp] theorem completeError_pbaAddr (s : State) (e : CmdError) : (s.completeError e).pbaAddr = s.pbaAddr := rfl
@[simp] theorem completeError_pbaData (s : State) (e : CmdError) : (s.completeError e).pbaData = s.pbaData := rfl
@[simp] theorem completeError_cmdCount (s : State) (e : CmdError) : (s.completeError e).cmdCount = s.cmdCount + 1 := rfl
@[simp] theorem completeError_pix (s : State) (e : CmdError) : (s.completeError e).pix = s.pix := rfl
@[simp] theorem completeError_held (s : State) (e : CmdError) : (s.completeError e).held = s.held := rfl
@[simp] theorem completeError_turns (s : State) (e : CmdError) : (s.completeError e).turns = s.turns := rfl
@[simp] theorem completeError_responses (s : State) (e : CmdError) : (s.completeError e).responses = s.responses := rfl
@[simp] theorem completeError_draws (s : State) (e : CmdError) : (s.completeError e).draws = s.draws := rfl
@[simp] theorem completeError_cfg (s : State) (e : CmdError) : (s.completeError e).cfg = s.cfg := rfl

/-! ### `State.issue` -/

@[simp] theorem issue_ctrlIrqEn (s : State) (d : Word) : (s.issue d).ctrlIrqEn = s.ctrlIrqEn := rfl
@[simp] theorem issue_busy (s : State) (d : Word) : (s.issue d).busy = true := rfl
@[simp] theorem issue_done (s : State) (d : Word) : (s.issue d).done = s.done := rfl
@[simp] theorem issue_err (s : State) (d : Word) : (s.issue d).err = s.err := rfl
@[simp] theorem issue_wign (s : State) (d : Word) : (s.issue d).wign = s.wign := rfl
@[simp] theorem issue_errCode (s : State) (d : Word) : (s.issue d).errCode = s.errCode := rfl
@[simp] theorem issue_cmdLast (s : State) (d : Word) : (s.issue d).cmdLast = d := rfl
@[simp] theorem issue_errInfo (s : State) (d : Word) : (s.issue d).errInfo = s.errInfo := rfl
@[simp] theorem issue_srcBase (s : State) (d : Word) : (s.issue d).srcBase = s.srcBase := rfl
@[simp] theorem issue_srcW (s : State) (d : Word) : (s.issue d).srcW = s.srcW := rfl
@[simp] theorem issue_srcH (s : State) (d : Word) : (s.issue d).srcH = s.srcH := rfl
@[simp] theorem issue_srcC (s : State) (d : Word) : (s.issue d).srcC = s.srcC := rfl
@[simp] theorem issue_dstBase (s : State) (d : Word) : (s.issue d).dstBase = s.dstBase := rfl
@[simp] theorem issue_dstW (s : State) (d : Word) : (s.issue d).dstW = s.dstW := rfl
@[simp] theorem issue_dstH (s : State) (d : Word) : (s.issue d).dstH = s.dstH := rfl
@[simp] theorem issue_outW (s : State) (d : Word) : (s.issue d).outW = s.outW := rfl
@[simp] theorem issue_outH (s : State) (d : Word) : (s.issue d).outH = s.outH := rfl
@[simp] theorem issue_outC (s : State) (d : Word) : (s.issue d).outC = s.outC := rfl
@[simp] theorem issue_gamma (s : State) (d : Word) : (s.issue d).gamma = s.gamma := rfl
@[simp] theorem issue_lutIndex (s : State) (d : Word) : (s.issue d).lutIndex = s.lutIndex := rfl
@[simp] theorem issue_lut (s : State) (d : Word) : (s.issue d).lut = s.lut := rfl
@[simp] theorem issue_lutValid (s : State) (d : Word) : (s.issue d).lutValid = s.lutValid := rfl
@[simp] theorem issue_pbaX (s : State) (d : Word) : (s.issue d).pbaX = s.pbaX := rfl
@[simp] theorem issue_pbaY (s : State) (d : Word) : (s.issue d).pbaY = s.pbaY := rfl
@[simp] theorem issue_pbaCh (s : State) (d : Word) : (s.issue d).pbaCh = s.pbaCh := rfl
@[simp] theorem issue_pbaAddr (s : State) (d : Word) : (s.issue d).pbaAddr = s.pbaAddr := rfl
@[simp] theorem issue_pbaData (s : State) (d : Word) : (s.issue d).pbaData = s.pbaData := rfl
@[simp] theorem issue_cmdCount (s : State) (d : Word) : (s.issue d).cmdCount = s.cmdCount := rfl
@[simp] theorem issue_pix (s : State) (d : Word) : (s.issue d).pix = s.pix := rfl
@[simp] theorem issue_held (s : State) (d : Word) : (s.issue d).held = s.held := rfl
@[simp] theorem issue_turns (s : State) (d : Word) : (s.issue d).turns = s.turns := rfl
@[simp] theorem issue_responses (s : State) (d : Word) : (s.issue d).responses = s.responses := rfl
@[simp] theorem issue_draws (s : State) (d : Word) : (s.issue d).draws = s.draws := rfl
@[simp] theorem issue_cfg (s : State) (d : Word) : (s.issue d).cfg = s.cfg := rfl

/-! ### `State.respond` -/

@[simp] theorem respond_ctrlIrqEn (s : State) (r : BusResponse) : (s.respond r).ctrlIrqEn = s.ctrlIrqEn := rfl
@[simp] theorem respond_busy (s : State) (r : BusResponse) : (s.respond r).busy = s.busy := rfl
@[simp] theorem respond_done (s : State) (r : BusResponse) : (s.respond r).done = s.done := rfl
@[simp] theorem respond_err (s : State) (r : BusResponse) : (s.respond r).err = s.err := rfl
@[simp] theorem respond_wign (s : State) (r : BusResponse) : (s.respond r).wign = s.wign := rfl
@[simp] theorem respond_errCode (s : State) (r : BusResponse) : (s.respond r).errCode = s.errCode := rfl
@[simp] theorem respond_cmdLast (s : State) (r : BusResponse) : (s.respond r).cmdLast = s.cmdLast := rfl
@[simp] theorem respond_errInfo (s : State) (r : BusResponse) : (s.respond r).errInfo = s.errInfo := rfl
@[simp] theorem respond_srcBase (s : State) (r : BusResponse) : (s.respond r).srcBase = s.srcBase := rfl
@[simp] theorem respond_srcW (s : State) (r : BusResponse) : (s.respond r).srcW = s.srcW := rfl
@[simp] theorem respond_srcH (s : State) (r : BusResponse) : (s.respond r).srcH = s.srcH := rfl
@[simp] theorem respond_srcC (s : State) (r : BusResponse) : (s.respond r).srcC = s.srcC := rfl
@[simp] theorem respond_dstBase (s : State) (r : BusResponse) : (s.respond r).dstBase = s.dstBase := rfl
@[simp] theorem respond_dstW (s : State) (r : BusResponse) : (s.respond r).dstW = s.dstW := rfl
@[simp] theorem respond_dstH (s : State) (r : BusResponse) : (s.respond r).dstH = s.dstH := rfl
@[simp] theorem respond_outW (s : State) (r : BusResponse) : (s.respond r).outW = s.outW := rfl
@[simp] theorem respond_outH (s : State) (r : BusResponse) : (s.respond r).outH = s.outH := rfl
@[simp] theorem respond_outC (s : State) (r : BusResponse) : (s.respond r).outC = s.outC := rfl
@[simp] theorem respond_gamma (s : State) (r : BusResponse) : (s.respond r).gamma = s.gamma := rfl
@[simp] theorem respond_lutIndex (s : State) (r : BusResponse) : (s.respond r).lutIndex = s.lutIndex := rfl
@[simp] theorem respond_lut (s : State) (r : BusResponse) : (s.respond r).lut = s.lut := rfl
@[simp] theorem respond_lutValid (s : State) (r : BusResponse) : (s.respond r).lutValid = s.lutValid := rfl
@[simp] theorem respond_pbaX (s : State) (r : BusResponse) : (s.respond r).pbaX = s.pbaX := rfl
@[simp] theorem respond_pbaY (s : State) (r : BusResponse) : (s.respond r).pbaY = s.pbaY := rfl
@[simp] theorem respond_pbaCh (s : State) (r : BusResponse) : (s.respond r).pbaCh = s.pbaCh := rfl
@[simp] theorem respond_pbaAddr (s : State) (r : BusResponse) : (s.respond r).pbaAddr = s.pbaAddr := rfl
@[simp] theorem respond_pbaData (s : State) (r : BusResponse) : (s.respond r).pbaData = s.pbaData := rfl
@[simp] theorem respond_cmdCount (s : State) (r : BusResponse) : (s.respond r).cmdCount = s.cmdCount := rfl
@[simp] theorem respond_pix (s : State) (r : BusResponse) : (s.respond r).pix = s.pix := rfl
@[simp] theorem respond_held (s : State) (r : BusResponse) : (s.respond r).held = s.held := rfl
@[simp] theorem respond_turns (s : State) (r : BusResponse) : (s.respond r).turns = s.turns := rfl
@[simp] theorem respond_responses (s : State) (r : BusResponse) : (s.respond r).responses = s.responses ++ [r] := rfl
@[simp] theorem respond_draws (s : State) (r : BusResponse) : (s.respond r).draws = s.draws := rfl
@[simp] theorem respond_cfg (s : State) (r : BusResponse) : (s.respond r).cfg = s.cfg := rfl

/-! ### `State.clearStatus` -/

@[simp] theorem clearStatus_ctrlIrqEn (s : State) (d : Word) : (s.clearStatus d).ctrlIrqEn = s.ctrlIrqEn := rfl
@[simp] theorem clearStatus_busy (s : State) (d : Word) : (s.clearStatus d).busy = s.busy := rfl
@[simp] theorem clearStatus_done (s : State) (d : Word) : (s.clearStatus d).done = (s.done && !d.getLsbD 1) := rfl
@[simp] theorem clearStatus_err (s : State) (d : Word) : (s.clearStatus d).err = (s.err && !d.getLsbD 2) := rfl
@[simp] theorem clearStatus_wign (s : State) (d : Word) : (s.clearStatus d).wign = (s.wign && !d.getLsbD 3) := rfl
@[simp] theorem clearStatus_errCode (s : State) (d : Word) : (s.clearStatus d).errCode = s.errCode := rfl
@[simp] theorem clearStatus_cmdLast (s : State) (d : Word) : (s.clearStatus d).cmdLast = s.cmdLast := rfl
@[simp] theorem clearStatus_errInfo (s : State) (d : Word) : (s.clearStatus d).errInfo = s.errInfo := rfl
@[simp] theorem clearStatus_srcBase (s : State) (d : Word) : (s.clearStatus d).srcBase = s.srcBase := rfl
@[simp] theorem clearStatus_srcW (s : State) (d : Word) : (s.clearStatus d).srcW = s.srcW := rfl
@[simp] theorem clearStatus_srcH (s : State) (d : Word) : (s.clearStatus d).srcH = s.srcH := rfl
@[simp] theorem clearStatus_srcC (s : State) (d : Word) : (s.clearStatus d).srcC = s.srcC := rfl
@[simp] theorem clearStatus_dstBase (s : State) (d : Word) : (s.clearStatus d).dstBase = s.dstBase := rfl
@[simp] theorem clearStatus_dstW (s : State) (d : Word) : (s.clearStatus d).dstW = s.dstW := rfl
@[simp] theorem clearStatus_dstH (s : State) (d : Word) : (s.clearStatus d).dstH = s.dstH := rfl
@[simp] theorem clearStatus_outW (s : State) (d : Word) : (s.clearStatus d).outW = s.outW := rfl
@[simp] theorem clearStatus_outH (s : State) (d : Word) : (s.clearStatus d).outH = s.outH := rfl
@[simp] theorem clearStatus_outC (s : State) (d : Word) : (s.clearStatus d).outC = s.outC := rfl
@[simp] theorem clearStatus_gamma (s : State) (d : Word) : (s.clearStatus d).gamma = s.gamma := rfl
@[simp] theorem clearStatus_lutIndex (s : State) (d : Word) : (s.clearStatus d).lutIndex = s.lutIndex := rfl
@[simp] theorem clearStatus_lut (s : State) (d : Word) : (s.clearStatus d).lut = s.lut := rfl
@[simp] theorem clearStatus_lutValid (s : State) (d : Word) : (s.clearStatus d).lutValid = s.lutValid := rfl
@[simp] theorem clearStatus_pbaX (s : State) (d : Word) : (s.clearStatus d).pbaX = s.pbaX := rfl
@[simp] theorem clearStatus_pbaY (s : State) (d : Word) : (s.clearStatus d).pbaY = s.pbaY := rfl
@[simp] theorem clearStatus_pbaCh (s : State) (d : Word) : (s.clearStatus d).pbaCh = s.pbaCh := rfl
@[simp] theorem clearStatus_pbaAddr (s : State) (d : Word) : (s.clearStatus d).pbaAddr = s.pbaAddr := rfl
@[simp] theorem clearStatus_pbaData (s : State) (d : Word) : (s.clearStatus d).pbaData = s.pbaData := rfl
@[simp] theorem clearStatus_cmdCount (s : State) (d : Word) : (s.clearStatus d).cmdCount = s.cmdCount := rfl
@[simp] theorem clearStatus_pix (s : State) (d : Word) : (s.clearStatus d).pix = s.pix := rfl
@[simp] theorem clearStatus_held (s : State) (d : Word) : (s.clearStatus d).held = s.held := rfl
@[simp] theorem clearStatus_turns (s : State) (d : Word) : (s.clearStatus d).turns = s.turns := rfl
@[simp] theorem clearStatus_responses (s : State) (d : Word) : (s.clearStatus d).responses = s.responses := rfl
@[simp] theorem clearStatus_draws (s : State) (d : Word) : (s.clearStatus d).draws = s.draws := rfl
@[simp] theorem clearStatus_cfg (s : State) (d : Word) : (s.clearStatus d).cfg = s.cfg := rfl

/-! ### `State.raiseWign` -/

@[simp] theorem raiseWign_ctrlIrqEn (s : State) : s.raiseWign.ctrlIrqEn = s.ctrlIrqEn := rfl
@[simp] theorem raiseWign_busy (s : State) : s.raiseWign.busy = s.busy := rfl
@[simp] theorem raiseWign_done (s : State) : s.raiseWign.done = s.done := rfl
@[simp] theorem raiseWign_err (s : State) : s.raiseWign.err = s.err := rfl
@[simp] theorem raiseWign_wign (s : State) : s.raiseWign.wign = true := rfl
@[simp] theorem raiseWign_errCode (s : State) : s.raiseWign.errCode = s.errCode := rfl
@[simp] theorem raiseWign_cmdLast (s : State) : s.raiseWign.cmdLast = s.cmdLast := rfl
@[simp] theorem raiseWign_errInfo (s : State) : s.raiseWign.errInfo = s.errInfo := rfl
@[simp] theorem raiseWign_srcBase (s : State) : s.raiseWign.srcBase = s.srcBase := rfl
@[simp] theorem raiseWign_srcW (s : State) : s.raiseWign.srcW = s.srcW := rfl
@[simp] theorem raiseWign_srcH (s : State) : s.raiseWign.srcH = s.srcH := rfl
@[simp] theorem raiseWign_srcC (s : State) : s.raiseWign.srcC = s.srcC := rfl
@[simp] theorem raiseWign_dstBase (s : State) : s.raiseWign.dstBase = s.dstBase := rfl
@[simp] theorem raiseWign_dstW (s : State) : s.raiseWign.dstW = s.dstW := rfl
@[simp] theorem raiseWign_dstH (s : State) : s.raiseWign.dstH = s.dstH := rfl
@[simp] theorem raiseWign_outW (s : State) : s.raiseWign.outW = s.outW := rfl
@[simp] theorem raiseWign_outH (s : State) : s.raiseWign.outH = s.outH := rfl
@[simp] theorem raiseWign_outC (s : State) : s.raiseWign.outC = s.outC := rfl
@[simp] theorem raiseWign_gamma (s : State) : s.raiseWign.gamma = s.gamma := rfl
@[simp] theorem raiseWign_lutIndex (s : State) : s.raiseWign.lutIndex = s.lutIndex := rfl
@[simp] theorem raiseWign_lut (s : State) : s.raiseWign.lut = s.lut := rfl
@[simp] theorem raiseWign_lutValid (s : State) : s.raiseWign.lutValid = s.lutValid := rfl
@[simp] theorem raiseWign_pbaX (s : State) : s.raiseWign.pbaX = s.pbaX := rfl
@[simp] theorem raiseWign_pbaY (s : State) : s.raiseWign.pbaY = s.pbaY := rfl
@[simp] theorem raiseWign_pbaCh (s : State) : s.raiseWign.pbaCh = s.pbaCh := rfl
@[simp] theorem raiseWign_pbaAddr (s : State) : s.raiseWign.pbaAddr = s.pbaAddr := rfl
@[simp] theorem raiseWign_pbaData (s : State) : s.raiseWign.pbaData = s.pbaData := rfl
@[simp] theorem raiseWign_cmdCount (s : State) : s.raiseWign.cmdCount = s.cmdCount := rfl
@[simp] theorem raiseWign_pix (s : State) : s.raiseWign.pix = s.pix := rfl
@[simp] theorem raiseWign_held (s : State) : s.raiseWign.held = s.held := rfl
@[simp] theorem raiseWign_turns (s : State) : s.raiseWign.turns = s.turns := rfl
@[simp] theorem raiseWign_responses (s : State) : s.raiseWign.responses = s.responses := rfl
@[simp] theorem raiseWign_draws (s : State) : s.raiseWign.draws = s.draws := rfl
@[simp] theorem raiseWign_cfg (s : State) : s.raiseWign.cfg = s.cfg := rfl

/-! ### `State.setOut` -/

@[simp] theorem setOut_ctrlIrqEn (s : State) (w h : Half) (c : Byte) : (s.setOut w h c).ctrlIrqEn = s.ctrlIrqEn := rfl
@[simp] theorem setOut_busy (s : State) (w h : Half) (c : Byte) : (s.setOut w h c).busy = s.busy := rfl
@[simp] theorem setOut_done (s : State) (w h : Half) (c : Byte) : (s.setOut w h c).done = s.done := rfl
@[simp] theorem setOut_err (s : State) (w h : Half) (c : Byte) : (s.setOut w h c).err = s.err := rfl
@[simp] theorem setOut_wign (s : State) (w h : Half) (c : Byte) : (s.setOut w h c).wign = s.wign := rfl
@[simp] theorem setOut_errCode (s : State) (w h : Half) (c : Byte) : (s.setOut w h c).errCode = s.errCode := rfl
@[simp] theorem setOut_cmdLast (s : State) (w h : Half) (c : Byte) : (s.setOut w h c).cmdLast = s.cmdLast := rfl
@[simp] theorem setOut_errInfo (s : State) (w h : Half) (c : Byte) : (s.setOut w h c).errInfo = s.errInfo := rfl
@[simp] theorem setOut_srcBase (s : State) (w h : Half) (c : Byte) : (s.setOut w h c).srcBase = s.srcBase := rfl
@[simp] theorem setOut_srcW (s : State) (w h : Half) (c : Byte) : (s.setOut w h c).srcW = s.srcW := rfl
@[simp] theorem setOut_srcH (s : State) (w h : Half) (c : Byte) : (s.setOut w h c).srcH = s.srcH := rfl
@[simp] theorem setOut_srcC (s : State) (w h : Half) (c : Byte) : (s.setOut w h c).srcC = s.srcC := rfl
@[simp] theorem setOut_dstBase (s : State) (w h : Half) (c : Byte) : (s.setOut w h c).dstBase = s.dstBase := rfl
@[simp] theorem setOut_dstW (s : State) (w h : Half) (c : Byte) : (s.setOut w h c).dstW = s.dstW := rfl
@[simp] theorem setOut_dstH (s : State) (w h : Half) (c : Byte) : (s.setOut w h c).dstH = s.dstH := rfl
@[simp] theorem setOut_outW (s : State) (w h : Half) (c : Byte) : (s.setOut w h c).outW = w := rfl
@[simp] theorem setOut_outH (s : State) (w h : Half) (c : Byte) : (s.setOut w h c).outH = h := rfl
@[simp] theorem setOut_outC (s : State) (w h : Half) (c : Byte) : (s.setOut w h c).outC = c := rfl
@[simp] theorem setOut_gamma (s : State) (w h : Half) (c : Byte) : (s.setOut w h c).gamma = s.gamma := rfl
@[simp] theorem setOut_lutIndex (s : State) (w h : Half) (c : Byte) : (s.setOut w h c).lutIndex = s.lutIndex := rfl
@[simp] theorem setOut_lut (s : State) (w h : Half) (c : Byte) : (s.setOut w h c).lut = s.lut := rfl
@[simp] theorem setOut_lutValid (s : State) (w h : Half) (c : Byte) : (s.setOut w h c).lutValid = s.lutValid := rfl
@[simp] theorem setOut_pbaX (s : State) (w h : Half) (c : Byte) : (s.setOut w h c).pbaX = s.pbaX := rfl
@[simp] theorem setOut_pbaY (s : State) (w h : Half) (c : Byte) : (s.setOut w h c).pbaY = s.pbaY := rfl
@[simp] theorem setOut_pbaCh (s : State) (w h : Half) (c : Byte) : (s.setOut w h c).pbaCh = s.pbaCh := rfl
@[simp] theorem setOut_pbaAddr (s : State) (w h : Half) (c : Byte) : (s.setOut w h c).pbaAddr = s.pbaAddr := rfl
@[simp] theorem setOut_pbaData (s : State) (w h : Half) (c : Byte) : (s.setOut w h c).pbaData = s.pbaData := rfl
@[simp] theorem setOut_cmdCount (s : State) (w h : Half) (c : Byte) : (s.setOut w h c).cmdCount = s.cmdCount := rfl
@[simp] theorem setOut_pix (s : State) (w h : Half) (c : Byte) : (s.setOut w h c).pix = s.pix := rfl
@[simp] theorem setOut_held (s : State) (w h : Half) (c : Byte) : (s.setOut w h c).held = s.held := rfl
@[simp] theorem setOut_turns (s : State) (w h : Half) (c : Byte) : (s.setOut w h c).turns = s.turns := rfl
@[simp] theorem setOut_responses (s : State) (w h : Half) (c : Byte) : (s.setOut w h c).responses = s.responses := rfl
@[simp] theorem setOut_draws (s : State) (w h : Half) (c : Byte) : (s.setOut w h c).draws = s.draws := rfl
@[simp] theorem setOut_cfg (s : State) (w h : Half) (c : Byte) : (s.setOut w h c).cfg = s.cfg := rfl

/-! ### `State.setPba` -/

@[simp] theorem setPba_ctrlIrqEn (s : State) (a : Nat) : (s.setPba a).ctrlIrqEn = s.ctrlIrqEn := rfl
@[simp] theorem setPba_busy (s : State) (a : Nat) : (s.setPba a).busy = s.busy := rfl
@[simp] theorem setPba_done (s : State) (a : Nat) : (s.setPba a).done = s.done := rfl
@[simp] theorem setPba_err (s : State) (a : Nat) : (s.setPba a).err = s.err := rfl
@[simp] theorem setPba_wign (s : State) (a : Nat) : (s.setPba a).wign = s.wign := rfl
@[simp] theorem setPba_errCode (s : State) (a : Nat) : (s.setPba a).errCode = s.errCode := rfl
@[simp] theorem setPba_cmdLast (s : State) (a : Nat) : (s.setPba a).cmdLast = s.cmdLast := rfl
@[simp] theorem setPba_errInfo (s : State) (a : Nat) : (s.setPba a).errInfo = s.errInfo := rfl
@[simp] theorem setPba_srcBase (s : State) (a : Nat) : (s.setPba a).srcBase = s.srcBase := rfl
@[simp] theorem setPba_srcW (s : State) (a : Nat) : (s.setPba a).srcW = s.srcW := rfl
@[simp] theorem setPba_srcH (s : State) (a : Nat) : (s.setPba a).srcH = s.srcH := rfl
@[simp] theorem setPba_srcC (s : State) (a : Nat) : (s.setPba a).srcC = s.srcC := rfl
@[simp] theorem setPba_dstBase (s : State) (a : Nat) : (s.setPba a).dstBase = s.dstBase := rfl
@[simp] theorem setPba_dstW (s : State) (a : Nat) : (s.setPba a).dstW = s.dstW := rfl
@[simp] theorem setPba_dstH (s : State) (a : Nat) : (s.setPba a).dstH = s.dstH := rfl
@[simp] theorem setPba_outW (s : State) (a : Nat) : (s.setPba a).outW = s.outW := rfl
@[simp] theorem setPba_outH (s : State) (a : Nat) : (s.setPba a).outH = s.outH := rfl
@[simp] theorem setPba_outC (s : State) (a : Nat) : (s.setPba a).outC = s.outC := rfl
@[simp] theorem setPba_gamma (s : State) (a : Nat) : (s.setPba a).gamma = s.gamma := rfl
@[simp] theorem setPba_lutIndex (s : State) (a : Nat) : (s.setPba a).lutIndex = s.lutIndex := rfl
@[simp] theorem setPba_lut (s : State) (a : Nat) : (s.setPba a).lut = s.lut := rfl
@[simp] theorem setPba_lutValid (s : State) (a : Nat) : (s.setPba a).lutValid = s.lutValid := rfl
@[simp] theorem setPba_pbaX (s : State) (a : Nat) : (s.setPba a).pbaX = s.pbaX := rfl
@[simp] theorem setPba_pbaY (s : State) (a : Nat) : (s.setPba a).pbaY = s.pbaY := rfl
@[simp] theorem setPba_pbaCh (s : State) (a : Nat) : (s.setPba a).pbaCh = s.pbaCh := rfl
@[simp] theorem setPba_pbaAddr (s : State) (a : Nat) : (s.setPba a).pbaAddr = BitVec.ofNat 32 a := rfl
@[simp] theorem setPba_pbaData (s : State) (a : Nat) : (s.setPba a).pbaData = s.readPix a := rfl
@[simp] theorem setPba_cmdCount (s : State) (a : Nat) : (s.setPba a).cmdCount = s.cmdCount := rfl
@[simp] theorem setPba_pix (s : State) (a : Nat) : (s.setPba a).pix = s.pix := rfl
@[simp] theorem setPba_held (s : State) (a : Nat) : (s.setPba a).held = s.held := rfl
@[simp] theorem setPba_turns (s : State) (a : Nat) : (s.setPba a).turns = s.turns := rfl
@[simp] theorem setPba_responses (s : State) (a : Nat) : (s.setPba a).responses = s.responses := rfl
@[simp] theorem setPba_draws (s : State) (a : Nat) : (s.setPba a).draws = s.draws := rfl
@[simp] theorem setPba_cfg (s : State) (a : Nat) : (s.setPba a).cfg = s.cfg := rfl

/-! ### `State.setLut` -/

@[simp] theorem setLut_ctrlIrqEn (s : State) (i v : Byte) : (s.setLut i v).ctrlIrqEn = s.ctrlIrqEn := rfl
@[simp] theorem setLut_busy (s : State) (i v : Byte) : (s.setLut i v).busy = s.busy := rfl
@[simp] theorem setLut_done (s : State) (i v : Byte) : (s.setLut i v).done = s.done := rfl
@[simp] theorem setLut_err (s : State) (i v : Byte) : (s.setLut i v).err = s.err := rfl
@[simp] theorem setLut_wign (s : State) (i v : Byte) : (s.setLut i v).wign = s.wign := rfl
@[simp] theorem setLut_errCode (s : State) (i v : Byte) : (s.setLut i v).errCode = s.errCode := rfl
@[simp] theorem setLut_cmdLast (s : State) (i v : Byte) : (s.setLut i v).cmdLast = s.cmdLast := rfl
@[simp] theorem setLut_errInfo (s : State) (i v : Byte) : (s.setLut i v).errInfo = s.errInfo := rfl
@[simp] theorem setLut_srcBase (s : State) (i v : Byte) : (s.setLut i v).srcBase = s.srcBase := rfl
@[simp] theorem setLut_srcW (s : State) (i v : Byte) : (s.setLut i v).srcW = s.srcW := rfl
@[simp] theorem setLut_srcH (s : State) (i v : Byte) : (s.setLut i v).srcH = s.srcH := rfl
@[simp] theorem setLut_srcC (s : State) (i v : Byte) : (s.setLut i v).srcC = s.srcC := rfl
@[simp] theorem setLut_dstBase (s : State) (i v : Byte) : (s.setLut i v).dstBase = s.dstBase := rfl
@[simp] theorem setLut_dstW (s : State) (i v : Byte) : (s.setLut i v).dstW = s.dstW := rfl
@[simp] theorem setLut_dstH (s : State) (i v : Byte) : (s.setLut i v).dstH = s.dstH := rfl
@[simp] theorem setLut_outW (s : State) (i v : Byte) : (s.setLut i v).outW = s.outW := rfl
@[simp] theorem setLut_outH (s : State) (i v : Byte) : (s.setLut i v).outH = s.outH := rfl
@[simp] theorem setLut_outC (s : State) (i v : Byte) : (s.setLut i v).outC = s.outC := rfl
@[simp] theorem setLut_gamma (s : State) (i v : Byte) : (s.setLut i v).gamma = s.gamma := rfl
@[simp] theorem setLut_lutIndex (s : State) (i v : Byte) : (s.setLut i v).lutIndex = s.lutIndex := rfl
@[simp] theorem setLut_lut (s : State) (i v : Byte) : (s.setLut i v).lut = s.lut.set i.toNat v i.isLt := rfl
@[simp] theorem setLut_lutValid (s : State) (i v : Byte) : (s.setLut i v).lutValid = s.lutValid.set i.toNat true i.isLt := rfl
@[simp] theorem setLut_pbaX (s : State) (i v : Byte) : (s.setLut i v).pbaX = s.pbaX := rfl
@[simp] theorem setLut_pbaY (s : State) (i v : Byte) : (s.setLut i v).pbaY = s.pbaY := rfl
@[simp] theorem setLut_pbaCh (s : State) (i v : Byte) : (s.setLut i v).pbaCh = s.pbaCh := rfl
@[simp] theorem setLut_pbaAddr (s : State) (i v : Byte) : (s.setLut i v).pbaAddr = s.pbaAddr := rfl
@[simp] theorem setLut_pbaData (s : State) (i v : Byte) : (s.setLut i v).pbaData = s.pbaData := rfl
@[simp] theorem setLut_cmdCount (s : State) (i v : Byte) : (s.setLut i v).cmdCount = s.cmdCount := rfl
@[simp] theorem setLut_pix (s : State) (i v : Byte) : (s.setLut i v).pix = s.pix := rfl
@[simp] theorem setLut_held (s : State) (i v : Byte) : (s.setLut i v).held = s.held := rfl
@[simp] theorem setLut_turns (s : State) (i v : Byte) : (s.setLut i v).turns = s.turns := rfl
@[simp] theorem setLut_responses (s : State) (i v : Byte) : (s.setLut i v).responses = s.responses := rfl
@[simp] theorem setLut_draws (s : State) (i v : Byte) : (s.setLut i v).draws = s.draws := rfl
@[simp] theorem setLut_cfg (s : State) (i v : Byte) : (s.setLut i v).cfg = s.cfg := rfl

/-! ### `State.buildLut` -/

@[simp] theorem buildLut_ctrlIrqEn (s : State) (f : Nat → Byte) : (s.buildLut f).ctrlIrqEn = s.ctrlIrqEn := rfl
@[simp] theorem buildLut_busy (s : State) (f : Nat → Byte) : (s.buildLut f).busy = s.busy := rfl
@[simp] theorem buildLut_done (s : State) (f : Nat → Byte) : (s.buildLut f).done = s.done := rfl
@[simp] theorem buildLut_err (s : State) (f : Nat → Byte) : (s.buildLut f).err = s.err := rfl
@[simp] theorem buildLut_wign (s : State) (f : Nat → Byte) : (s.buildLut f).wign = s.wign := rfl
@[simp] theorem buildLut_errCode (s : State) (f : Nat → Byte) : (s.buildLut f).errCode = s.errCode := rfl
@[simp] theorem buildLut_cmdLast (s : State) (f : Nat → Byte) : (s.buildLut f).cmdLast = s.cmdLast := rfl
@[simp] theorem buildLut_errInfo (s : State) (f : Nat → Byte) : (s.buildLut f).errInfo = s.errInfo := rfl
@[simp] theorem buildLut_srcBase (s : State) (f : Nat → Byte) : (s.buildLut f).srcBase = s.srcBase := rfl
@[simp] theorem buildLut_srcW (s : State) (f : Nat → Byte) : (s.buildLut f).srcW = s.srcW := rfl
@[simp] theorem buildLut_srcH (s : State) (f : Nat → Byte) : (s.buildLut f).srcH = s.srcH := rfl
@[simp] theorem buildLut_srcC (s : State) (f : Nat → Byte) : (s.buildLut f).srcC = s.srcC := rfl
@[simp] theorem buildLut_dstBase (s : State) (f : Nat → Byte) : (s.buildLut f).dstBase = s.dstBase := rfl
@[simp] theorem buildLut_dstW (s : State) (f : Nat → Byte) : (s.buildLut f).dstW = s.dstW := rfl
@[simp] theorem buildLut_dstH (s : State) (f : Nat → Byte) : (s.buildLut f).dstH = s.dstH := rfl
@[simp] theorem buildLut_outW (s : State) (f : Nat → Byte) : (s.buildLut f).outW = s.outW := rfl
@[simp] theorem buildLut_outH (s : State) (f : Nat → Byte) : (s.buildLut f).outH = s.outH := rfl
@[simp] theorem buildLut_outC (s : State) (f : Nat → Byte) : (s.buildLut f).outC = s.outC := rfl
@[simp] theorem buildLut_gamma (s : State) (f : Nat → Byte) : (s.buildLut f).gamma = s.gamma := rfl
@[simp] theorem buildLut_lutIndex (s : State) (f : Nat → Byte) : (s.buildLut f).lutIndex = s.lutIndex := rfl
@[simp] theorem buildLut_lut (s : State) (f : Nat → Byte) : (s.buildLut f).lut = tableOf f := rfl
@[simp] theorem buildLut_lutValid (s : State) (f : Nat → Byte) : (s.buildLut f).lutValid = allValid := rfl
@[simp] theorem buildLut_pbaX (s : State) (f : Nat → Byte) : (s.buildLut f).pbaX = s.pbaX := rfl
@[simp] theorem buildLut_pbaY (s : State) (f : Nat → Byte) : (s.buildLut f).pbaY = s.pbaY := rfl
@[simp] theorem buildLut_pbaCh (s : State) (f : Nat → Byte) : (s.buildLut f).pbaCh = s.pbaCh := rfl
@[simp] theorem buildLut_pbaAddr (s : State) (f : Nat → Byte) : (s.buildLut f).pbaAddr = s.pbaAddr := rfl
@[simp] theorem buildLut_pbaData (s : State) (f : Nat → Byte) : (s.buildLut f).pbaData = s.pbaData := rfl
@[simp] theorem buildLut_cmdCount (s : State) (f : Nat → Byte) : (s.buildLut f).cmdCount = s.cmdCount := rfl
@[simp] theorem buildLut_pix (s : State) (f : Nat → Byte) : (s.buildLut f).pix = s.pix := rfl
@[simp] theorem buildLut_held (s : State) (f : Nat → Byte) : (s.buildLut f).held = s.held := rfl
@[simp] theorem buildLut_turns (s : State) (f : Nat → Byte) : (s.buildLut f).turns = s.turns := rfl
@[simp] theorem buildLut_responses (s : State) (f : Nat → Byte) : (s.buildLut f).responses = s.responses := rfl
@[simp] theorem buildLut_draws (s : State) (f : Nat → Byte) : (s.buildLut f).draws = s.draws := rfl
@[simp] theorem buildLut_cfg (s : State) (f : Nat → Byte) : (s.buildLut f).cfg = s.cfg := rfl

/-! ### `State.writePix` -/

@[simp] theorem writePix_ctrlIrqEn (s : State) (a : Nat) (v : Byte) : (s.writePix a v).ctrlIrqEn = s.ctrlIrqEn := rfl
@[simp] theorem writePix_busy (s : State) (a : Nat) (v : Byte) : (s.writePix a v).busy = s.busy := rfl
@[simp] theorem writePix_done (s : State) (a : Nat) (v : Byte) : (s.writePix a v).done = s.done := rfl
@[simp] theorem writePix_err (s : State) (a : Nat) (v : Byte) : (s.writePix a v).err = s.err := rfl
@[simp] theorem writePix_wign (s : State) (a : Nat) (v : Byte) : (s.writePix a v).wign = s.wign := rfl
@[simp] theorem writePix_errCode (s : State) (a : Nat) (v : Byte) : (s.writePix a v).errCode = s.errCode := rfl
@[simp] theorem writePix_cmdLast (s : State) (a : Nat) (v : Byte) : (s.writePix a v).cmdLast = s.cmdLast := rfl
@[simp] theorem writePix_errInfo (s : State) (a : Nat) (v : Byte) : (s.writePix a v).errInfo = s.errInfo := rfl
@[simp] theorem writePix_srcBase (s : State) (a : Nat) (v : Byte) : (s.writePix a v).srcBase = s.srcBase := rfl
@[simp] theorem writePix_srcW (s : State) (a : Nat) (v : Byte) : (s.writePix a v).srcW = s.srcW := rfl
@[simp] theorem writePix_srcH (s : State) (a : Nat) (v : Byte) : (s.writePix a v).srcH = s.srcH := rfl
@[simp] theorem writePix_srcC (s : State) (a : Nat) (v : Byte) : (s.writePix a v).srcC = s.srcC := rfl
@[simp] theorem writePix_dstBase (s : State) (a : Nat) (v : Byte) : (s.writePix a v).dstBase = s.dstBase := rfl
@[simp] theorem writePix_dstW (s : State) (a : Nat) (v : Byte) : (s.writePix a v).dstW = s.dstW := rfl
@[simp] theorem writePix_dstH (s : State) (a : Nat) (v : Byte) : (s.writePix a v).dstH = s.dstH := rfl
@[simp] theorem writePix_outW (s : State) (a : Nat) (v : Byte) : (s.writePix a v).outW = s.outW := rfl
@[simp] theorem writePix_outH (s : State) (a : Nat) (v : Byte) : (s.writePix a v).outH = s.outH := rfl
@[simp] theorem writePix_outC (s : State) (a : Nat) (v : Byte) : (s.writePix a v).outC = s.outC := rfl
@[simp] theorem writePix_gamma (s : State) (a : Nat) (v : Byte) : (s.writePix a v).gamma = s.gamma := rfl
@[simp] theorem writePix_lutIndex (s : State) (a : Nat) (v : Byte) : (s.writePix a v).lutIndex = s.lutIndex := rfl
@[simp] theorem writePix_lut (s : State) (a : Nat) (v : Byte) : (s.writePix a v).lut = s.lut := rfl
@[simp] theorem writePix_lutValid (s : State) (a : Nat) (v : Byte) : (s.writePix a v).lutValid = s.lutValid := rfl
@[simp] theorem writePix_pbaX (s : State) (a : Nat) (v : Byte) : (s.writePix a v).pbaX = s.pbaX := rfl
@[simp] theorem writePix_pbaY (s : State) (a : Nat) (v : Byte) : (s.writePix a v).pbaY = s.pbaY := rfl
@[simp] theorem writePix_pbaCh (s : State) (a : Nat) (v : Byte) : (s.writePix a v).pbaCh = s.pbaCh := rfl
@[simp] theorem writePix_pbaAddr (s : State) (a : Nat) (v : Byte) : (s.writePix a v).pbaAddr = s.pbaAddr := rfl
@[simp] theorem writePix_pbaData (s : State) (a : Nat) (v : Byte) : (s.writePix a v).pbaData = s.pbaData := rfl
@[simp] theorem writePix_cmdCount (s : State) (a : Nat) (v : Byte) : (s.writePix a v).cmdCount = s.cmdCount := rfl
@[simp] theorem writePix_pix (s : State) (a : Nat) (v : Byte) : (s.writePix a v).pix = memWrite s.cfg a v s.pix := rfl
@[simp] theorem writePix_held (s : State) (a : Nat) (v : Byte) : (s.writePix a v).held = s.held := rfl
@[simp] theorem writePix_turns (s : State) (a : Nat) (v : Byte) : (s.writePix a v).turns = s.turns := rfl
@[simp] theorem writePix_responses (s : State) (a : Nat) (v : Byte) : (s.writePix a v).responses = s.responses := rfl
@[simp] theorem writePix_draws (s : State) (a : Nat) (v : Byte) : (s.writePix a v).draws = s.draws := rfl
@[simp] theorem writePix_cfg (s : State) (a : Nat) (v : Byte) : (s.writePix a v).cfg = s.cfg := rfl

/-! ### `State.writePix32` -/

@[simp] theorem writePix32_ctrlIrqEn (s : State) (a : Nat) (d : Word) : (s.writePix32 a d).ctrlIrqEn = s.ctrlIrqEn := rfl
@[simp] theorem writePix32_busy (s : State) (a : Nat) (d : Word) : (s.writePix32 a d).busy = s.busy := rfl
@[simp] theorem writePix32_done (s : State) (a : Nat) (d : Word) : (s.writePix32 a d).done = s.done := rfl
@[simp] theorem writePix32_err (s : State) (a : Nat) (d : Word) : (s.writePix32 a d).err = s.err := rfl
@[simp] theorem writePix32_wign (s : State) (a : Nat) (d : Word) : (s.writePix32 a d).wign = s.wign := rfl
@[simp] theorem writePix32_errCode (s : State) (a : Nat) (d : Word) : (s.writePix32 a d).errCode = s.errCode := rfl
@[simp] theorem writePix32_cmdLast (s : State) (a : Nat) (d : Word) : (s.writePix32 a d).cmdLast = s.cmdLast := rfl
@[simp] theorem writePix32_errInfo (s : State) (a : Nat) (d : Word) : (s.writePix32 a d).errInfo = s.errInfo := rfl
@[simp] theorem writePix32_srcBase (s : State) (a : Nat) (d : Word) : (s.writePix32 a d).srcBase = s.srcBase := rfl
@[simp] theorem writePix32_srcW (s : State) (a : Nat) (d : Word) : (s.writePix32 a d).srcW = s.srcW := rfl
@[simp] theorem writePix32_srcH (s : State) (a : Nat) (d : Word) : (s.writePix32 a d).srcH = s.srcH := rfl
@[simp] theorem writePix32_srcC (s : State) (a : Nat) (d : Word) : (s.writePix32 a d).srcC = s.srcC := rfl
@[simp] theorem writePix32_dstBase (s : State) (a : Nat) (d : Word) : (s.writePix32 a d).dstBase = s.dstBase := rfl
@[simp] theorem writePix32_dstW (s : State) (a : Nat) (d : Word) : (s.writePix32 a d).dstW = s.dstW := rfl
@[simp] theorem writePix32_dstH (s : State) (a : Nat) (d : Word) : (s.writePix32 a d).dstH = s.dstH := rfl
@[simp] theorem writePix32_outW (s : State) (a : Nat) (d : Word) : (s.writePix32 a d).outW = s.outW := rfl
@[simp] theorem writePix32_outH (s : State) (a : Nat) (d : Word) : (s.writePix32 a d).outH = s.outH := rfl
@[simp] theorem writePix32_outC (s : State) (a : Nat) (d : Word) : (s.writePix32 a d).outC = s.outC := rfl
@[simp] theorem writePix32_gamma (s : State) (a : Nat) (d : Word) : (s.writePix32 a d).gamma = s.gamma := rfl
@[simp] theorem writePix32_lutIndex (s : State) (a : Nat) (d : Word) : (s.writePix32 a d).lutIndex = s.lutIndex := rfl
@[simp] theorem writePix32_lut (s : State) (a : Nat) (d : Word) : (s.writePix32 a d).lut = s.lut := rfl
@[simp] theorem writePix32_lutValid (s : State) (a : Nat) (d : Word) : (s.writePix32 a d).lutValid = s.lutValid := rfl
@[simp] theorem writePix32_pbaX (s : State) (a : Nat) (d : Word) : (s.writePix32 a d).pbaX = s.pbaX := rfl
@[simp] theorem writePix32_pbaY (s : State) (a : Nat) (d : Word) : (s.writePix32 a d).pbaY = s.pbaY := rfl
@[simp] theorem writePix32_pbaCh (s : State) (a : Nat) (d : Word) : (s.writePix32 a d).pbaCh = s.pbaCh := rfl
@[simp] theorem writePix32_pbaAddr (s : State) (a : Nat) (d : Word) : (s.writePix32 a d).pbaAddr = s.pbaAddr := rfl
@[simp] theorem writePix32_pbaData (s : State) (a : Nat) (d : Word) : (s.writePix32 a d).pbaData = s.pbaData := rfl
@[simp] theorem writePix32_cmdCount (s : State) (a : Nat) (d : Word) : (s.writePix32 a d).cmdCount = s.cmdCount := rfl
@[simp] theorem writePix32_pix (s : State) (a : Nat) (d : Word) : (s.writePix32 a d).pix = fillRegion s.cfg a (byteOfWord d) 4 s.pix := rfl
@[simp] theorem writePix32_held (s : State) (a : Nat) (d : Word) : (s.writePix32 a d).held = s.held := rfl
@[simp] theorem writePix32_turns (s : State) (a : Nat) (d : Word) : (s.writePix32 a d).turns = s.turns := rfl
@[simp] theorem writePix32_responses (s : State) (a : Nat) (d : Word) : (s.writePix32 a d).responses = s.responses := rfl
@[simp] theorem writePix32_draws (s : State) (a : Nat) (d : Word) : (s.writePix32 a d).draws = s.draws := rfl
@[simp] theorem writePix32_cfg (s : State) (a : Nat) (d : Word) : (s.writePix32 a d).cfg = s.cfg := rfl

/-! ### `State.writeBuffer` -/

@[simp] theorem writeBuffer_ctrlIrqEn (s : State) (d : Desc) (f : Nat → Nat → Nat → Byte) : (s.writeBuffer d f).ctrlIrqEn = s.ctrlIrqEn := rfl
@[simp] theorem writeBuffer_busy (s : State) (d : Desc) (f : Nat → Nat → Nat → Byte) : (s.writeBuffer d f).busy = s.busy := rfl
@[simp] theorem writeBuffer_done (s : State) (d : Desc) (f : Nat → Nat → Nat → Byte) : (s.writeBuffer d f).done = s.done := rfl
@[simp] theorem writeBuffer_err (s : State) (d : Desc) (f : Nat → Nat → Nat → Byte) : (s.writeBuffer d f).err = s.err := rfl
@[simp] theorem writeBuffer_wign (s : State) (d : Desc) (f : Nat → Nat → Nat → Byte) : (s.writeBuffer d f).wign = s.wign := rfl
@[simp] theorem writeBuffer_errCode (s : State) (d : Desc) (f : Nat → Nat → Nat → Byte) : (s.writeBuffer d f).errCode = s.errCode := rfl
@[simp] theorem writeBuffer_cmdLast (s : State) (d : Desc) (f : Nat → Nat → Nat → Byte) : (s.writeBuffer d f).cmdLast = s.cmdLast := rfl
@[simp] theorem writeBuffer_errInfo (s : State) (d : Desc) (f : Nat → Nat → Nat → Byte) : (s.writeBuffer d f).errInfo = s.errInfo := rfl
@[simp] theorem writeBuffer_srcBase (s : State) (d : Desc) (f : Nat → Nat → Nat → Byte) : (s.writeBuffer d f).srcBase = s.srcBase := rfl
@[simp] theorem writeBuffer_srcW (s : State) (d : Desc) (f : Nat → Nat → Nat → Byte) : (s.writeBuffer d f).srcW = s.srcW := rfl
@[simp] theorem writeBuffer_srcH (s : State) (d : Desc) (f : Nat → Nat → Nat → Byte) : (s.writeBuffer d f).srcH = s.srcH := rfl
@[simp] theorem writeBuffer_srcC (s : State) (d : Desc) (f : Nat → Nat → Nat → Byte) : (s.writeBuffer d f).srcC = s.srcC := rfl
@[simp] theorem writeBuffer_dstBase (s : State) (d : Desc) (f : Nat → Nat → Nat → Byte) : (s.writeBuffer d f).dstBase = s.dstBase := rfl
@[simp] theorem writeBuffer_dstW (s : State) (d : Desc) (f : Nat → Nat → Nat → Byte) : (s.writeBuffer d f).dstW = s.dstW := rfl
@[simp] theorem writeBuffer_dstH (s : State) (d : Desc) (f : Nat → Nat → Nat → Byte) : (s.writeBuffer d f).dstH = s.dstH := rfl
@[simp] theorem writeBuffer_outW (s : State) (d : Desc) (f : Nat → Nat → Nat → Byte) : (s.writeBuffer d f).outW = s.outW := rfl
@[simp] theorem writeBuffer_outH (s : State) (d : Desc) (f : Nat → Nat → Nat → Byte) : (s.writeBuffer d f).outH = s.outH := rfl
@[simp] theorem writeBuffer_outC (s : State) (d : Desc) (f : Nat → Nat → Nat → Byte) : (s.writeBuffer d f).outC = s.outC := rfl
@[simp] theorem writeBuffer_gamma (s : State) (d : Desc) (f : Nat → Nat → Nat → Byte) : (s.writeBuffer d f).gamma = s.gamma := rfl
@[simp] theorem writeBuffer_lutIndex (s : State) (d : Desc) (f : Nat → Nat → Nat → Byte) : (s.writeBuffer d f).lutIndex = s.lutIndex := rfl
@[simp] theorem writeBuffer_lut (s : State) (d : Desc) (f : Nat → Nat → Nat → Byte) : (s.writeBuffer d f).lut = s.lut := rfl
@[simp] theorem writeBuffer_lutValid (s : State) (d : Desc) (f : Nat → Nat → Nat → Byte) : (s.writeBuffer d f).lutValid = s.lutValid := rfl
@[simp] theorem writeBuffer_pbaX (s : State) (d : Desc) (f : Nat → Nat → Nat → Byte) : (s.writeBuffer d f).pbaX = s.pbaX := rfl
@[simp] theorem writeBuffer_pbaY (s : State) (d : Desc) (f : Nat → Nat → Nat → Byte) : (s.writeBuffer d f).pbaY = s.pbaY := rfl
@[simp] theorem writeBuffer_pbaCh (s : State) (d : Desc) (f : Nat → Nat → Nat → Byte) : (s.writeBuffer d f).pbaCh = s.pbaCh := rfl
@[simp] theorem writeBuffer_pbaAddr (s : State) (d : Desc) (f : Nat → Nat → Nat → Byte) : (s.writeBuffer d f).pbaAddr = s.pbaAddr := rfl
@[simp] theorem writeBuffer_pbaData (s : State) (d : Desc) (f : Nat → Nat → Nat → Byte) : (s.writeBuffer d f).pbaData = s.pbaData := rfl
@[simp] theorem writeBuffer_cmdCount (s : State) (d : Desc) (f : Nat → Nat → Nat → Byte) : (s.writeBuffer d f).cmdCount = s.cmdCount := rfl
@[simp] theorem writeBuffer_pix (s : State) (d : Desc) (f : Nat → Nat → Nat → Byte) : (s.writeBuffer d f).pix = fillRegion s.cfg d.base (fun i => f (i / d.c % d.w) (i / d.c / d.w) (i % d.c)) d.size s.pix := rfl
@[simp] theorem writeBuffer_held (s : State) (d : Desc) (f : Nat → Nat → Nat → Byte) : (s.writeBuffer d f).held = s.held := rfl
@[simp] theorem writeBuffer_turns (s : State) (d : Desc) (f : Nat → Nat → Nat → Byte) : (s.writeBuffer d f).turns = s.turns := rfl
@[simp] theorem writeBuffer_responses (s : State) (d : Desc) (f : Nat → Nat → Nat → Byte) : (s.writeBuffer d f).responses = s.responses := rfl
@[simp] theorem writeBuffer_draws (s : State) (d : Desc) (f : Nat → Nat → Nat → Byte) : (s.writeBuffer d f).draws = s.draws := rfl
@[simp] theorem writeBuffer_cfg (s : State) (d : Desc) (f : Nat → Nat → Nat → Byte) : (s.writeBuffer d f).cfg = s.cfg := rfl

/-! ### `State.softReset` -/

@[simp] theorem softReset_ctrlIrqEn (s : State) : s.softReset.ctrlIrqEn = false := rfl
@[simp] theorem softReset_busy (s : State) : s.softReset.busy = false := rfl
@[simp] theorem softReset_done (s : State) : s.softReset.done = false := rfl
@[simp] theorem softReset_err (s : State) : s.softReset.err = false := rfl
@[simp] theorem softReset_wign (s : State) : s.softReset.wign = false := rfl
@[simp] theorem softReset_errCode (s : State) : s.softReset.errCode = 0 := rfl
@[simp] theorem softReset_cmdLast (s : State) : s.softReset.cmdLast = 0 := rfl
@[simp] theorem softReset_errInfo (s : State) : s.softReset.errInfo = 0 := rfl
@[simp] theorem softReset_srcBase (s : State) : s.softReset.srcBase = 0 := rfl
@[simp] theorem softReset_srcW (s : State) : s.softReset.srcW = 0 := rfl
@[simp] theorem softReset_srcH (s : State) : s.softReset.srcH = 0 := rfl
@[simp] theorem softReset_srcC (s : State) : s.softReset.srcC = 0 := rfl
@[simp] theorem softReset_dstBase (s : State) : s.softReset.dstBase = 0 := rfl
@[simp] theorem softReset_dstW (s : State) : s.softReset.dstW = 0 := rfl
@[simp] theorem softReset_dstH (s : State) : s.softReset.dstH = 0 := rfl
@[simp] theorem softReset_outW (s : State) : s.softReset.outW = 0 := rfl
@[simp] theorem softReset_outH (s : State) : s.softReset.outH = 0 := rfl
@[simp] theorem softReset_outC (s : State) : s.softReset.outC = 0 := rfl
@[simp] theorem softReset_gamma (s : State) : s.softReset.gamma = 0x00010000 := rfl
@[simp] theorem softReset_lutIndex (s : State) : s.softReset.lutIndex = 0 := rfl
@[simp] theorem softReset_lut (s : State) : s.softReset.lut = s.cfg.initLut := rfl
@[simp] theorem softReset_lutValid (s : State) : s.softReset.lutValid = Vector.replicate 256 false := rfl
@[simp] theorem softReset_pbaX (s : State) : s.softReset.pbaX = 0 := rfl
@[simp] theorem softReset_pbaY (s : State) : s.softReset.pbaY = 0 := rfl
@[simp] theorem softReset_pbaCh (s : State) : s.softReset.pbaCh = 0 := rfl
@[simp] theorem softReset_pbaAddr (s : State) : s.softReset.pbaAddr = 0 := rfl
@[simp] theorem softReset_pbaData (s : State) : s.softReset.pbaData = 0 := rfl
@[simp] theorem softReset_cmdCount (s : State) : s.softReset.cmdCount = 0 := rfl
@[simp] theorem softReset_pix (s : State) : s.softReset.pix = s.pix := rfl
@[simp] theorem softReset_held (s : State) : s.softReset.held = s.held := rfl
@[simp] theorem softReset_turns (s : State) : s.softReset.turns = s.turns := rfl
@[simp] theorem softReset_responses (s : State) : s.softReset.responses = s.responses := rfl
@[simp] theorem softReset_draws (s : State) : s.softReset.draws = s.draws := rfl
@[simp] theorem softReset_cfg (s : State) : s.softReset.cfg = s.cfg := rfl

/-! ### `State.setTurns` -/

@[simp] theorem setTurns_ctrlIrqEn (s : State) (ts : List Turn) : (s.setTurns ts).ctrlIrqEn = s.ctrlIrqEn := rfl
@[simp] theorem setTurns_busy (s : State) (ts : List Turn) : (s.setTurns ts).busy = s.busy := rfl
@[simp] theorem setTurns_done (s : State) (ts : List Turn) : (s.setTurns ts).done = s.done := rfl
@[simp] theorem setTurns_err (s : State) (ts : List Turn) : (s.setTurns ts).err = s.err := rfl
@[simp] theorem setTurns_wign (s : State) (ts : List Turn) : (s.setTurns ts).wign = s.wign := rfl
@[simp] theorem setTurns_errCode (s : State) (ts : List Turn) : (s.setTurns ts).errCode = s.errCode := rfl
@[simp] theorem setTurns_cmdLast (s : State) (ts : List Turn) : (s.setTurns ts).cmdLast = s.cmdLast := rfl
@[simp] theorem setTurns_errInfo (s : State) (ts : List Turn) : (s.setTurns ts).errInfo = s.errInfo := rfl
@[simp] theorem setTurns_srcBase (s : State) (ts : List Turn) : (s.setTurns ts).srcBase = s.srcBase := rfl
@[simp] theorem setTurns_srcW (s : State) (ts : List Turn) : (s.setTurns ts).srcW = s.srcW := rfl
@[simp] theorem setTurns_srcH (s : State) (ts : List Turn) : (s.setTurns ts).srcH = s.srcH := rfl
@[simp] theorem setTurns_srcC (s : State) (ts : List Turn) : (s.setTurns ts).srcC = s.srcC := rfl
@[simp] theorem setTurns_dstBase (s : State) (ts : List Turn) : (s.setTurns ts).dstBase = s.dstBase := rfl
@[simp] theorem setTurns_dstW (s : State) (ts : List Turn) : (s.setTurns ts).dstW = s.dstW := rfl
@[simp] theorem setTurns_dstH (s : State) (ts : List Turn) : (s.setTurns ts).dstH = s.dstH := rfl
@[simp] theorem setTurns_outW (s : State) (ts : List Turn) : (s.setTurns ts).outW = s.outW := rfl
@[simp] theorem setTurns_outH (s : State) (ts : List Turn) : (s.setTurns ts).outH = s.outH := rfl
@[simp] theorem setTurns_outC (s : State) (ts : List Turn) : (s.setTurns ts).outC = s.outC := rfl
@[simp] theorem setTurns_gamma (s : State) (ts : List Turn) : (s.setTurns ts).gamma = s.gamma := rfl
@[simp] theorem setTurns_lutIndex (s : State) (ts : List Turn) : (s.setTurns ts).lutIndex = s.lutIndex := rfl
@[simp] theorem setTurns_lut (s : State) (ts : List Turn) : (s.setTurns ts).lut = s.lut := rfl
@[simp] theorem setTurns_lutValid (s : State) (ts : List Turn) : (s.setTurns ts).lutValid = s.lutValid := rfl
@[simp] theorem setTurns_pbaX (s : State) (ts : List Turn) : (s.setTurns ts).pbaX = s.pbaX := rfl
@[simp] theorem setTurns_pbaY (s : State) (ts : List Turn) : (s.setTurns ts).pbaY = s.pbaY := rfl
@[simp] theorem setTurns_pbaCh (s : State) (ts : List Turn) : (s.setTurns ts).pbaCh = s.pbaCh := rfl
@[simp] theorem setTurns_pbaAddr (s : State) (ts : List Turn) : (s.setTurns ts).pbaAddr = s.pbaAddr := rfl
@[simp] theorem setTurns_pbaData (s : State) (ts : List Turn) : (s.setTurns ts).pbaData = s.pbaData := rfl
@[simp] theorem setTurns_cmdCount (s : State) (ts : List Turn) : (s.setTurns ts).cmdCount = s.cmdCount := rfl
@[simp] theorem setTurns_pix (s : State) (ts : List Turn) : (s.setTurns ts).pix = s.pix := rfl
@[simp] theorem setTurns_held (s : State) (ts : List Turn) : (s.setTurns ts).held = s.held := rfl
@[simp] theorem setTurns_turns (s : State) (ts : List Turn) : (s.setTurns ts).turns = ts := rfl
@[simp] theorem setTurns_responses (s : State) (ts : List Turn) : (s.setTurns ts).responses = s.responses := rfl
@[simp] theorem setTurns_draws (s : State) (ts : List Turn) : (s.setTurns ts).draws = s.draws := rfl
@[simp] theorem setTurns_cfg (s : State) (ts : List Turn) : (s.setTurns ts).cfg = s.cfg := rfl

/-! ### `State.setHeld` -/

@[simp] theorem setHeld_ctrlIrqEn (s : State) (h : Option BusRequest) : (s.setHeld h).ctrlIrqEn = s.ctrlIrqEn := rfl
@[simp] theorem setHeld_busy (s : State) (h : Option BusRequest) : (s.setHeld h).busy = s.busy := rfl
@[simp] theorem setHeld_done (s : State) (h : Option BusRequest) : (s.setHeld h).done = s.done := rfl
@[simp] theorem setHeld_err (s : State) (h : Option BusRequest) : (s.setHeld h).err = s.err := rfl
@[simp] theorem setHeld_wign (s : State) (h : Option BusRequest) : (s.setHeld h).wign = s.wign := rfl
@[simp] theorem setHeld_errCode (s : State) (h : Option BusRequest) : (s.setHeld h).errCode = s.errCode := rfl
@[simp] theorem setHeld_cmdLast (s : State) (h : Option BusRequest) : (s.setHeld h).cmdLast = s.cmdLast := rfl
@[simp] theorem setHeld_errInfo (s : State) (h : Option BusRequest) : (s.setHeld h).errInfo = s.errInfo := rfl
@[simp] theorem setHeld_srcBase (s : State) (h : Option BusRequest) : (s.setHeld h).srcBase = s.srcBase := rfl
@[simp] theorem setHeld_srcW (s : State) (h : Option BusRequest) : (s.setHeld h).srcW = s.srcW := rfl
@[simp] theorem setHeld_srcH (s : State) (h : Option BusRequest) : (s.setHeld h).srcH = s.srcH := rfl
@[simp] theorem setHeld_srcC (s : State) (h : Option BusRequest) : (s.setHeld h).srcC = s.srcC := rfl
@[simp] theorem setHeld_dstBase (s : State) (h : Option BusRequest) : (s.setHeld h).dstBase = s.dstBase := rfl
@[simp] theorem setHeld_dstW (s : State) (h : Option BusRequest) : (s.setHeld h).dstW = s.dstW := rfl
@[simp] theorem setHeld_dstH (s : State) (h : Option BusRequest) : (s.setHeld h).dstH = s.dstH := rfl
@[simp] theorem setHeld_outW (s : State) (h : Option BusRequest) : (s.setHeld h).outW = s.outW := rfl
@[simp] theorem setHeld_outH (s : State) (h : Option BusRequest) : (s.setHeld h).outH = s.outH := rfl
@[simp] theorem setHeld_outC (s : State) (h : Option BusRequest) : (s.setHeld h).outC = s.outC := rfl
@[simp] theorem setHeld_gamma (s : State) (h : Option BusRequest) : (s.setHeld h).gamma = s.gamma := rfl
@[simp] theorem setHeld_lutIndex (s : State) (h : Option BusRequest) : (s.setHeld h).lutIndex = s.lutIndex := rfl
@[simp] theorem setHeld_lut (s : State) (h : Option BusRequest) : (s.setHeld h).lut = s.lut := rfl
@[simp] theorem setHeld_lutValid (s : State) (h : Option BusRequest) : (s.setHeld h).lutValid = s.lutValid := rfl
@[simp] theorem setHeld_pbaX (s : State) (h : Option BusRequest) : (s.setHeld h).pbaX = s.pbaX := rfl
@[simp] theorem setHeld_pbaY (s : State) (h : Option BusRequest) : (s.setHeld h).pbaY = s.pbaY := rfl
@[simp] theorem setHeld_pbaCh (s : State) (h : Option BusRequest) : (s.setHeld h).pbaCh = s.pbaCh := rfl
@[simp] theorem setHeld_pbaAddr (s : State) (h : Option BusRequest) : (s.setHeld h).pbaAddr = s.pbaAddr := rfl
@[simp] theorem setHeld_pbaData (s : State) (h : Option BusRequest) : (s.setHeld h).pbaData = s.pbaData := rfl
@[simp] theorem setHeld_cmdCount (s : State) (h : Option BusRequest) : (s.setHeld h).cmdCount = s.cmdCount := rfl
@[simp] theorem setHeld_pix (s : State) (h : Option BusRequest) : (s.setHeld h).pix = s.pix := rfl
@[simp] theorem setHeld_held (s : State) (h : Option BusRequest) : (s.setHeld h).held = h := rfl
@[simp] theorem setHeld_turns (s : State) (h : Option BusRequest) : (s.setHeld h).turns = s.turns := rfl
@[simp] theorem setHeld_responses (s : State) (h : Option BusRequest) : (s.setHeld h).responses = s.responses := rfl
@[simp] theorem setHeld_draws (s : State) (h : Option BusRequest) : (s.setHeld h).draws = s.draws := rfl
@[simp] theorem setHeld_cfg (s : State) (h : Option BusRequest) : (s.setHeld h).cfg = s.cfg := rfl

theorem setTurns_self (s : State) : s.setTurns s.turns = s := rfl

end Sys2Proof.Machine
end

