-- ==== Sys2Proof/Laws/Memory.lean ====
section
/-! SUPPORT. Pixel memory: read after write, writes to other offsets, the canonical form, and regions. -/

namespace Sys2Proof.Machine

/-! ## Lists of cells -/

theorem memLookup_memErase_same (a : Nat) (m : Memory) : memLookup a (memErase a m) = none := by
  induction m with
  | nil => rfl
  | cons e m ih =>
    obtain ⟨b, v⟩ := e
    by_cases h : b = a <;> simp [memErase, memLookup, h, ih]

theorem memLookup_memErase_other {a b : Nat} (h : b ≠ a) (m : Memory) :
    memLookup b (memErase a m) = memLookup b m := by
  induction m with
  | nil => rfl
  | cons e m ih =>
    obtain ⟨k, v⟩ := e
    by_cases hk : k = a
    · simp [memErase, memLookup, hk, ih, Ne.symm h]
    · simp [memErase, memLookup, hk, ih]

theorem memLookup_memInsert_same (a : Nat) (v : Byte) (m : Memory) : memLookup a (memInsert a v m) = some v := by
  induction m with
  | nil => simp [memInsert, memLookup]
  | cons e m ih =>
    obtain ⟨b, w⟩ := e
    simp only [memInsert]
    split
    · simp [memLookup]
    · split
      · simp [memLookup]
      · rename_i h
        simp [memLookup, ih, Ne.symm h]

theorem memLookup_memInsert_other {a b : Nat} (h : b ≠ a) (v : Byte) (m : Memory) :
    memLookup b (memInsert a v m) = memLookup b m := by
  induction m with
  | nil => simp [memInsert, memLookup, Ne.symm h]
  | cons e m ih =>
    obtain ⟨k, w⟩ := e
    simp only [memInsert]
    split
    · simp [memLookup, Ne.symm h]
    · split
      · rename_i hk
        subst hk
        simp [memLookup, Ne.symm h]
      · simp [memLookup, ih]

/-! ## Reading after a write -/

theorem memRead_memWrite_same (c : Config) (m : Memory) (a : Nat) (v : Byte) :
    memRead c (memWrite c a v m) a = v := by
  unfold memRead memWrite
  split
  · simp [memLookup_memErase_same, *]
  · simp [memLookup_memInsert_same]

theorem memRead_memWrite_other (c : Config) (m : Memory) {a b : Nat} (h : b ≠ a) (v : Byte) :
    memRead c (memWrite c a v m) b = memRead c m b := by
  unfold memRead memWrite
  split
  · rw [memLookup_memErase_other h]
  · rw [memLookup_memInsert_other h]

/-- Everything a region fill does to the byte at an offset. -/
theorem memRead_fillRegion (c : Config) (base : Nat) (f : Nat → Byte) (n : Nat) (m : Memory) (a : Nat) :
    memRead c (fillRegion c base f n m) a = if base ≤ a ∧ a < base + n then f (a - base) else memRead c m a := by
  induction n with
  | zero =>
    rw [if_neg (by omega)]
    rfl
  | succ n ih =>
    by_cases h : a = base + n
    · subst h
      simp [fillRegion, memRead_memWrite_same]
    · rw [fillRegion, memRead_memWrite_other c _ h, ih]
      exact if_congr (by omega) rfl rfl

/-! ## The canonical form -/

theorem memRising_weaken {lo lo' : Nat} (h : lo' ≤ lo) (m : Memory) (hm : memRising lo m = true) :
    memRising lo' m = true := by
  cases m with
  | nil => rfl
  | cons e m =>
    simp only [memRising, Bool.and_eq_true, decide_eq_true_eq] at hm ⊢
    exact ⟨by omega, hm.2⟩

theorem memRising_memErase (a : Nat) (m : Memory) : ∀ lo, memRising lo m = true → memRising lo (memErase a m) = true := by
  induction m with
  | nil => intro lo _; rfl
  | cons e m ih =>
    intro lo h
    obtain ⟨b, v⟩ := e
    simp only [memRising, Bool.and_eq_true, decide_eq_true_eq] at h
    simp only [memErase]
    split
    · exact memRising_weaken (by omega) _ (ih _ h.2)
    · simp only [memRising, Bool.and_eq_true, decide_eq_true_eq]
      exact ⟨h.1, ih _ h.2⟩

theorem memRising_memInsert (a : Nat) (v : Byte) (m : Memory) :
    ∀ lo, lo ≤ a → memRising lo m = true → memRising lo (memInsert a v m) = true := by
  induction m with
  | nil => intro lo h _; simp [memInsert, memRising, h]
  | cons e m ih =>
    intro lo hlo h
    obtain ⟨b, w⟩ := e
    simp only [memRising, Bool.and_eq_true, decide_eq_true_eq] at h
    simp only [memInsert]
    split
    · simp only [memRising, Bool.and_eq_true, decide_eq_true_eq]
      exact ⟨hlo, by omega, h.2⟩
    · split
      · rename_i hb
        subst hb
        simp only [memRising, Bool.and_eq_true, decide_eq_true_eq]
        exact h
      · simp only [memRising, Bool.and_eq_true, decide_eq_true_eq]
        exact ⟨h.1, ih _ (by omega) h.2⟩

theorem mem_of_mem_memErase {a : Nat} {e : Host.Cell} {m : Memory} (h : e ∈ memErase a m) : e ∈ m := by
  induction m with
  | nil => exact h
  | cons k m ih =>
    obtain ⟨b, v⟩ := k
    simp only [memErase] at h
    split at h
    · exact List.mem_cons_of_mem _ (ih h)
    · rcases List.mem_cons.mp h with h | h
      · exact h ▸ List.mem_cons_self
      · exact List.mem_cons_of_mem _ (ih h)

theorem mem_of_mem_memInsert {a : Nat} {v : Byte} {e : Host.Cell} {m : Memory} (h : e ∈ memInsert a v m) :
    e = (a, v) ∨ e ∈ m := by
  induction m with
  | nil => simpa [memInsert] using h
  | cons k m ih =>
    obtain ⟨b, w⟩ := k
    simp only [memInsert] at h
    split at h
    · simpa using h
    · split at h
      · rcases List.mem_cons.mp h with h | h
        · exact .inl h
        · exact .inr (List.mem_cons_of_mem _ h)
      · rcases List.mem_cons.mp h with h | h
        · exact .inr (h ▸ List.mem_cons_self)
        · exact (ih h).imp_right (List.mem_cons_of_mem _)

/-- A write inside PIX space keeps the canonical form. -/
theorem memWrite_wf (c : Config) (a : Nat) (v : Byte) (m : Memory) (ha : a < c.pixBytes)
    (h : Memory.wf c m = true) : Memory.wf c (memWrite c a v m) = true := by
  simp only [Memory.wf, Bool.and_eq_true, List.all_eq_true, decide_eq_true_eq, bne_iff_ne] at h ⊢
  unfold memWrite
  split
  · exact ⟨memRising_memErase a m 0 h.1, fun e he => h.2 e (mem_of_mem_memErase he)⟩
  · refine ⟨memRising_memInsert a v m 0 (Nat.zero_le a) h.1, fun e he => ?_⟩
    rcases mem_of_mem_memInsert he with rfl | he
    · exact ⟨ha, by assumption⟩
    · exact h.2 e he

/-- A fill of a region that fits keeps the canonical form. -/
theorem fillRegion_wf (c : Config) (base : Nat) (f : Nat → Byte) (n : Nat) (m : Memory)
    (hn : base + n ≤ c.pixBytes) (h : Memory.wf c m = true) : Memory.wf c (fillRegion c base f n m) = true := by
  induction n with
  | zero => exact h
  | succ n ih => exact memWrite_wf c _ _ _ (by omega) (ih (by omega))

/-- Power-on memory has the canonical form. -/
theorem empty_wf (c : Config) : Memory.wf c [] = true := rfl

/-! ## In a state -/

theorem readPix_writePix_same (s : State) (a : Nat) (v : Byte) : (s.writePix a v).readPix a = v :=
  memRead_memWrite_same s.cfg s.pix a v

theorem readPix_writePix_other (s : State) {a b : Nat} (h : b ≠ a) (v : Byte) :
    (s.writePix a v).readPix b = s.readPix b :=
  memRead_memWrite_other s.cfg s.pix h v

/-- Reading depends on the configuration and pixel memory alone. -/
theorem readPix_congr {s t : State} (hc : t.cfg = s.cfg) (hp : t.pix = s.pix) (a : Nat) :
    t.readPix a = s.readPix a := by
  simp [State.readPix, hc, hp]

end Sys2Proof.Machine
end

