-- ==== Sys2Proof/Laws/Buffer.lean ====
section
/-! SUPPORT. Buffers: the address function is a bijection onto the region (spec/42_pixel_buffer_addresser.md R191), and
what writing a whole buffer does. -/

namespace Sys2Proof.Machine

/-- An in-range triple's offset lies inside the buffer (R191). -/
theorem offset_lt_size {w h c x y ch : Nat} (hx : x < w) (hy : y < h) (hc : ch < c) :
    (y * w + x) * c + ch < w * h * c := by
  have h1 : (y * w + x) + 1 ≤ w * h := by
    calc y * w + x + 1 ≤ y * w + w := by omega
      _ = (y + 1) * w := by ring
      _ ≤ h * w := Nat.mul_le_mul_right w hy
      _ = w * h := Nat.mul_comm h w
  calc (y * w + x) * c + ch < (y * w + x) * c + c := by omega
    _ = (y * w + x + 1) * c := by ring
    _ ≤ w * h * c := Nat.mul_le_mul_right c h1

/-- The triple is recovered from its offset (R191). -/
theorem coords_of_offset {w c x y ch : Nat} (hx : x < w) (hc : ch < c) :
    ((y * w + x) * c + ch) / c % w = x ∧ ((y * w + x) * c + ch) / c / w = y ∧ ((y * w + x) * c + ch) % c = ch := by
  have hc0 : 0 < c := by omega
  have hw0 : 0 < w := by omega
  have hq : ((y * w + x) * c + ch) / c = y * w + x := by
    rw [Nat.mul_comm, Nat.mul_add_div hc0, Nat.div_eq_of_lt hc, Nat.add_zero]
  refine ⟨?_, ?_, ?_⟩
  · rw [hq, Nat.mul_comm, Nat.mul_add_mod, Nat.mod_eq_of_lt hx]
  · rw [hq, Nat.mul_comm, Nat.mul_add_div hw0, Nat.div_eq_of_lt hx, Nat.add_zero]
  · rw [Nat.mul_comm, Nat.mul_add_mod, Nat.mod_eq_of_lt hc]

/-- An offset of the buffer is that of the triple read from it (R191). -/
theorem offset_of_coords {w h c i : Nat} (hi : i < w * h * c) :
    i / c % w < w ∧ i / c / w < h ∧ i % c < c ∧ ((i / c / w) * w + i / c % w) * c + i % c = i := by
  have hc0 : 0 < c := by
    rcases Nat.eq_zero_or_pos c with rfl | hc
    · simp at hi
    · exact hc
  have hw0 : 0 < w := by
    rcases Nat.eq_zero_or_pos w with rfl | hw
    · simp at hi
    · exact hw
  refine ⟨Nat.mod_lt _ hw0, ?_, Nat.mod_lt _ hc0, ?_⟩
  · rw [Nat.div_lt_iff_lt_mul hw0, Nat.div_lt_iff_lt_mul hc0, Nat.mul_comm h w]
    exact hi
  · rw [Nat.div_add_mod' (i / c) w, Nat.div_add_mod' i c]

theorem fits_iff (c : Config) (d : Desc) : d.fits c = true ↔ d.base + d.size ≤ c.pixBytes := by
  simp [Desc.fits]

theorem overlaps_iff (d e : Desc) :
    d.overlaps e = true ↔ d.base < e.base + e.size ∧ e.base < d.base + d.size := by
  simp [Desc.overlaps]

/-- In a written buffer the sample at an in-range triple is the written one. -/
theorem readPix_writeBuffer_at (s : State) (d : Desc) (f : Nat → Nat → Nat → Byte) {x y ch : Nat} (hx : x < d.w)
    (hy : y < d.h) (hc : ch < d.c) : (s.writeBuffer d f).readPix (d.addr x y ch) = f x y ch := by
  have hlt := offset_lt_size hx hy hc
  obtain ⟨h1, h2, h3⟩ := coords_of_offset (y := y) hx hc
  have hsub : d.base + (y * d.w + x) * d.c + ch - d.base = (y * d.w + x) * d.c + ch := by omega
  simp only [State.readPix, writeBuffer_pix, writeBuffer_cfg, memRead_fillRegion, Desc.addr, Desc.size]
  rw [if_pos (by omega), hsub, h1, h2, h3]

/-- Outside a written buffer's region every byte reads as before. -/
theorem readPix_writeBuffer_outside (s : State) (d : Desc) (f : Nat → Nat → Nat → Byte) {a : Nat}
    (ha : ¬(d.base ≤ a ∧ a < d.base + d.size)) : (s.writeBuffer d f).readPix a = s.readPix a := by
  simp only [State.readPix, writeBuffer_pix, writeBuffer_cfg, memRead_fillRegion]
  rw [if_neg ha]

end Sys2Proof.Machine
end

