-- ==== Sys2Proof/Laws/Decode.lean ====
section
/-! SUPPORT. The table search of the decoder. -/

namespace Sys2Proof

/-- A search answers a row of the table. -/
theorem lookupRow_mem {w : Word} {rows : List (Word × Instr)} {i : Instr} (h : lookupRow w rows = some i) :
    (w, i) ∈ rows := by
  induction rows with
  | nil => simp [lookupRow] at h
  | cons row rows ih =>
    obtain ⟨v, j⟩ := row
    by_cases hv : v = w
    · rw [lookupRow, if_pos hv, Option.some.injEq] at h
      rw [← hv, ← h]
      exact List.mem_cons_self
    · rw [lookupRow, if_neg hv] at h
      exact List.mem_cons_of_mem _ (ih h)

/-- A search finds nothing exactly when no row has the word. -/
theorem lookupRow_none {w : Word} {rows : List (Word × Instr)} :
    lookupRow w rows = none ↔ ∀ row ∈ rows, row.1 ≠ w := by
  induction rows with
  | nil => simp [lookupRow]
  | cons row rows ih =>
    obtain ⟨v, j⟩ := row
    by_cases hv : v = w <;> simp [lookupRow, hv, ih]

end Sys2Proof
end

