-- ==== Sys2Proof/Laws/Gamma.lean ====
section
/-! SUPPORT. The gamma entry: the bracketing comparison answers as the plain one of R225, and the search finds the largest
n that satisfies it (spec/44_intensity_transform_lut.md R225). -/

namespace Sys2Proof.Machine

/-- A lower bracket of the exponent at which the comparison fails settles it. -/
theorem compare_fails_of_lower {p q r x K m : Nat} (hr : r ≤ 255) (hm : m * q ≤ p * K) (hq : 0 < q)
    (h : r ^ m * 510 ^ K < x ^ K * 255 ^ m) : ¬x ^ q * 255 ^ p ≤ r ^ p * 510 ^ q := by
  intro hle
  have h1 : (r ^ m * 510 ^ K) ^ q < (x ^ K * 255 ^ m) ^ q := Nat.pow_lt_pow_left h (by omega)
  have h2 : (x ^ q * 255 ^ p) ^ K ≤ (r ^ p * 510 ^ q) ^ K := Nat.pow_le_pow_left hle K
  simp only [mul_pow, ← pow_mul] at h1 h2
  obtain ⟨e, he⟩ := Nat.exists_eq_add_of_le hm
  have h3 : r ^ e ≤ 255 ^ e := Nat.pow_le_pow_left hr e
  have h4 : 0 < (255 : Nat) ^ e := Nat.pow_pos (by norm_num)
  rw [he, pow_add, pow_add, Nat.mul_comm q K] at h2
  have h5 : r ^ (m * q) * 510 ^ (K * q) * 255 ^ e < x ^ (K * q) * 255 ^ (m * q) * 255 ^ e :=
    Nat.mul_lt_mul_of_pos_right h1 h4
  have h6 : r ^ (m * q) * r ^ e * 510 ^ (K * q) ≤ r ^ (m * q) * 255 ^ e * 510 ^ (K * q) :=
    Nat.mul_le_mul_right _ (Nat.mul_le_mul_left _ h3)
  nlinarith

/-- An upper bracket of the exponent at which the comparison holds settles it. -/
theorem compare_holds_of_upper {p q r x K m : Nat} (hr : r ≤ 255) (hK : 0 < K) (hm : p * K ≤ m * q)
    (h : x ^ K * 255 ^ m ≤ r ^ m * 510 ^ K) : x ^ q * 255 ^ p ≤ r ^ p * 510 ^ q := by
  have h1 : (x ^ K * 255 ^ m) ^ q ≤ (r ^ m * 510 ^ K) ^ q := Nat.pow_le_pow_left h q
  rw [← Nat.pow_le_pow_iff_left (n := K) (by omega)]
  simp only [mul_pow, ← pow_mul] at h1 ⊢
  obtain ⟨e, he⟩ := Nat.exists_eq_add_of_le hm
  have h3 : r ^ e ≤ 255 ^ e := Nat.pow_le_pow_left hr e
  have h4 : 0 < (255 : Nat) ^ e := Nat.pow_pos (by norm_num)
  rw [he, pow_add, pow_add] at h1
  rw [Nat.mul_comm q K]
  refine Nat.le_of_mul_le_mul_right ?_ h4
  have h6 : r ^ (p * K) * r ^ e * 510 ^ (K * q) ≤ r ^ (p * K) * 255 ^ e * 510 ^ (K * q) :=
    Nat.mul_le_mul_right _ (Nat.mul_le_mul_left _ h3)
  nlinarith

/-- Whatever precisions are tried first, the comparison is that of R225. -/
theorem gammaCompare_iff {p q r n : Nat} (hq : 0 < q) (hr : r ≤ 255) (ks : List Nat) :
    gammaCompare p q r n ks = true ↔ (2 * n - 1) ^ q * 255 ^ p ≤ r ^ p * 510 ^ q := by
  induction ks with
  | nil => simp [gammaCompare]
  | cons k ks ih =>
    have hK : 0 < 2 ^ k := Nat.pow_pos (by norm_num)
    have hlo : p * 2 ^ k / q * q ≤ p * 2 ^ k := Nat.div_mul_le_self _ _
    have hhi : p * 2 ^ k ≤ (p * 2 ^ k / q + 1) * q := (Nat.lt_mul_of_div_lt (Nat.lt_succ_self _) hq).le
    rw [gammaCompare]
    split
    · rename_i h
      simp [compare_fails_of_lower hr hlo hq h]
    · split
      · rename_i h
        simp [compare_holds_of_upper hr hK hhi h]
      · exact ih

theorem gammaReaches_iff {p q r n : Nat} (hq : 0 < q) (hr : r ≤ 255) :
    gammaReaches p q r n = true ↔ (2 * n - 1) ^ q * 255 ^ p ≤ r ^ p * 510 ^ q :=
  gammaCompare_iff hq hr _

/-- Everything the search says, for a condition that holds downward. -/
theorem largestBelow_spec {cond : Nat → Bool} (hmono : ∀ a b, 1 ≤ a → a ≤ b → cond b = true → cond a = true) (bits : Nat) :
    ∀ acc, (acc = 0 ∨ cond acc = true) →
      acc ≤ largestBelow cond bits acc ∧ largestBelow cond bits acc < acc + 2 ^ bits ∧
        (largestBelow cond bits acc = 0 ∨ cond (largestBelow cond bits acc) = true) ∧
        ∀ n, largestBelow cond bits acc < n → n < acc + 2 ^ bits → cond n = false := by
  induction bits with
  | zero =>
    intro acc h
    simp only [largestBelow, pow_zero]
    exact ⟨le_refl _, by omega, h, by omega⟩
  | succ bits ih =>
    intro acc h
    have hpos : 0 < 2 ^ bits := Nat.pow_pos (by norm_num)
    have hdouble : 2 ^ (bits + 1) = 2 ^ bits + 2 ^ bits := by rw [pow_succ]; omega
    rw [largestBelow]
    split
    · rename_i hc
      obtain ⟨h1, h2, h3, h4⟩ := ih _ (.inr hc)
      exact ⟨by omega, by omega, h3, fun n hn hn' => h4 n hn (by omega)⟩
    · rename_i hc
      obtain ⟨h1, h2, h3, h4⟩ := ih acc h
      refine ⟨h1, by omega, h3, fun n hn hn' => ?_⟩
      by_cases hlt : n < acc + 2 ^ bits
      · exact h4 n hn hlt
      · by_contra hcon
        exact hc (hmono _ n (by omega) (by omega) (by simpa using hcon))

/-- The comparison of R225 holds for every smaller n. -/
theorem gammaReaches_mono {p q r : Nat} (hq : 0 < q) (hr : r ≤ 255) :
    ∀ a b, 1 ≤ a → a ≤ b → gammaReaches p q r b = true → gammaReaches p q r a = true := by
  intro a b _ hab h
  rw [gammaReaches_iff hq hr] at h ⊢
  exact le_trans (Nat.mul_le_mul_right _ (Nat.pow_le_pow_left (by omega) q)) h

/-- The exponent is a fraction with positive parts. -/
theorem gammaExponent_pos (s : State) : 0 < s.gammaExponent.1 ∧ 0 < s.gammaExponent.2 := by
  unfold State.gammaExponent
  split
  · rename_i h
    have hk : 0 < s.gamma.toInt.toNat := by omega
    have hg := Nat.gcd_pos_of_pos_left 65536 hk
    exact ⟨Nat.div_pos (Nat.le_of_dvd hk (Nat.gcd_dvd_left _ _)) hg,
      Nat.div_pos (Nat.le_of_dvd (by norm_num) (Nat.gcd_dvd_right _ _)) hg⟩
  · exact ⟨Nat.one_pos, Nat.one_pos⟩

end Sys2Proof.Machine
end

