-- ==== Sys2Proof/Laws/HostPort.lean ====
section
/-! SUPPORT. What a register transaction does, by offset (spec/40_host_port.md R141 to R146), and that a host transaction
leaves the machine's own bookkeeping alone. -/

namespace Sys2Proof.Machine

/-! ## The register map -/

theorem findReg_some {off : Word} {l : List RegName} {n : RegName} (h : findReg off l = some n) : n.offset = off := by
  induction l with
  | nil => simp [findReg] at h
  | cons m l ih =>
    rw [findReg] at h
    split at h
    · rename_i hm
      rw [Option.some.injEq] at h
      rw [← h, hm]
    · exact ih h

theorem findReg_none {off : Word} {l : List RegName} : findReg off l = none ↔ ∀ n ∈ l, n.offset ≠ off := by
  induction l with
  | nil => simp [findReg]
  | cons m l ih => by_cases h : m.offset = off <;> simp [findReg, h, ih]

/-- Every register has its offset to itself (R36). -/
theorem regAt_offset (n : RegName) : regAt n.offset = some n := by
  cases n <;> rfl

theorem regAt_some {off : Word} {n : RegName} : regAt off = some n ↔ off = n.offset :=
  ⟨fun h => (findReg_some h).symm, fun h => h ▸ regAt_offset n⟩

/-- No register lies at a reserved offset (R49). -/
theorem regAt_reserved {off : Word} (h : 0x68 ≤ off.toNat) : regAt off = none := by
  cases hn : regAt off with
  | none => rfl
  | some n =>
    rw [regAt_some] at hn
    subst hn
    cases n <;> simp [RegName.offset] at h

theorem regValueAt_offset (s : State) (n : RegName) : regValueAt s n.offset = regValue s n := by
  rw [regValueAt, regAt_offset]

theorem idleWrite_offset (s : State) (d : Word) (n : RegName) : s.idleWrite n.offset d = s.writeReg d n := by
  rw [State.idleWrite, regAt_offset]

theorem busyWrite_status (s : State) (d : Word) : s.busyWrite 0x0C d = s.clearStatus d := by
  rw [State.busyWrite, show (0x0C : Word) = RegName.status.offset from rfl, regAt_offset]

theorem busyWrite_other (s : State) {off : Word} (h : off ≠ 0x0C) (d : Word) : s.busyWrite off d = s.raiseWign := by
  unfold State.busyWrite
  split
  · rename_i hs
    exact absurd (regAt_some.mp hs) h
  · rfl

/-! ## Register transactions -/

section
variable {s : State} {off : Word} (h256 : off.toNat < 256) (h4 : off.toNat % 4 = 0)
include h256 h4

theorem regTransaction_read :
    s.regTransaction { space := .reg, offset := off, size := .four, access := .read } =
      s.respond (.okayRead (regValueAt s off)) := by
  simp [State.regTransaction, Nat.not_le.mpr h256, h4]

theorem regTransaction_write_idle (hb : s.busy = false) (d : Word) :
    s.regTransaction { space := .reg, offset := off, size := .four, access := .write d } =
      (s.idleWrite off d).respond .okayWrite := by
  simp [State.regTransaction, Nat.not_le.mpr h256, h4, hb]

theorem regTransaction_write_busy (hb : s.busy = true) (d : Word) :
    s.regTransaction { space := .reg, offset := off, size := .four, access := .write d } =
      (s.busyWrite off d).respond .okayWrite := by
  simp [State.regTransaction, Nat.not_le.mpr h256, h4, hb]

end

theorem regTransaction_error {s : State} {r : BusRequest} (h256 : r.offset.toNat < 256)
    (h : r.size ≠ .four ∨ r.offset.toNat % 4 ≠ 0) : s.regTransaction r = s.respond .error := by
  rw [State.regTransaction, if_neg (Nat.not_le.mpr h256), if_pos h]

end Sys2Proof.Machine
end

