-- ==== Sys2Proof/Laws/PerInstr.lean ====
section
/-! SUPPORT. One lemma per command, for statements about the commands as syntax. -/

/-- Family `FieldsInRange`: the reserved bits [31:8] of a command's word are 0, and its class and function are among those
of spec/30_encoding.md R123 (R120: "RSV reserved, must be 0"). -/
def Sys2Proof.Laws.FieldsInRange.Statement (i : Sys2Proof.Instr) : Prop :=
  (Sys2Proof.encode i).extractLsb' 8 24 = 0 ∧ (Sys2Proof.encode i).extractLsb' 0 4 = i.op ∧
    (Sys2Proof.encode i).extractLsb' 4 4 = i.fn ∧ i.op.toNat ≤ 5 ∧ i.fn.toNat ≤ 2

theorem Sys2Proof.Laws.FieldsInRange.nop : Sys2Proof.Laws.FieldsInRange.Statement .nop := by
  unfold Sys2Proof.Laws.FieldsInRange.Statement; decide

theorem Sys2Proof.Laws.FieldsInRange.lutNeg : Sys2Proof.Laws.FieldsInRange.Statement .lutNeg := by
  unfold Sys2Proof.Laws.FieldsInRange.Statement; decide

theorem Sys2Proof.Laws.FieldsInRange.lutLog : Sys2Proof.Laws.FieldsInRange.Statement .lutLog := by
  unfold Sys2Proof.Laws.FieldsInRange.Statement; decide

theorem Sys2Proof.Laws.FieldsInRange.lutGamma : Sys2Proof.Laws.FieldsInRange.Statement .lutGamma := by
  unfold Sys2Proof.Laws.FieldsInRange.Statement; decide

theorem Sys2Proof.Laws.FieldsInRange.lutApply : Sys2Proof.Laws.FieldsInRange.Statement .lutApply := by
  unfold Sys2Proof.Laws.FieldsInRange.Statement; decide

theorem Sys2Proof.Laws.FieldsInRange.gray : Sys2Proof.Laws.FieldsInRange.Statement .gray := by
  unfold Sys2Proof.Laws.FieldsInRange.Statement; decide

theorem Sys2Proof.Laws.FieldsInRange.rsNearest : Sys2Proof.Laws.FieldsInRange.Statement .rsNearest := by
  unfold Sys2Proof.Laws.FieldsInRange.Statement; decide

theorem Sys2Proof.Laws.FieldsInRange.rsBilinear : Sys2Proof.Laws.FieldsInRange.Statement .rsBilinear := by
  unfold Sys2Proof.Laws.FieldsInRange.Statement; decide

theorem Sys2Proof.Laws.FieldsInRange.addrRaw : Sys2Proof.Laws.FieldsInRange.Statement .addrRaw := by
  unfold Sys2Proof.Laws.FieldsInRange.Statement; decide

theorem Sys2Proof.Laws.FieldsInRange.addrClamp : Sys2Proof.Laws.FieldsInRange.Statement .addrClamp := by
  unfold Sys2Proof.Laws.FieldsInRange.Statement; decide
end

