-- ==== Sys2Proof/Laws/Table.lean ====
section
/-! SUPPORT. The LUT RAM: what an entry of a built table is, and what the valid bits say. -/

namespace Sys2Proof.Machine

theorem tableOf_get (f : Nat → Byte) (k : Nat) (h : k < 256) : (tableOf f)[k] = f k := by
  unfold tableOf
  simp only [Vector.getElem_ofFn]

/-- After a build command every entry is the mapping's (R220). -/
theorem lutAt_buildLut (s : State) (f : Nat → Byte) (b : Byte) : (s.buildLut f).lutAt b = f b.toNat :=
  tableOf_get f b.toNat b.isLt

/-- LUT_VALID is 1 exactly when all 256 valid bits are 1 (R40). -/
theorem lutAllValid_iff (s : State) : s.lutAllValid = true ↔ ∀ i, (h : i < 256) → s.lutValid[i] = true := by
  simp only [State.lutAllValid, List.all_eq_true]
  constructor
  · intro h i hi
    exact h _ (by simp)
  · intro h v hv
    obtain ⟨i, hi, rfl⟩ := List.getElem_of_mem hv
    simpa using h i (by simpa using hi)

/-- No valid bit is 0. -/
theorem lowestInvalid_none (s : State) : s.lowestInvalid = none ↔ ∀ i, (h : i < 256) → s.lutValid[i] = true := by
  rw [← lutAllValid_iff]
  simp only [State.lowestInvalid, State.lutAllValid, List.findIdx?_eq_none_iff, List.all_eq_true]
  exact forall₂_congr (fun v _ => by cases v <;> simp)

/-- The lowest index whose valid bit is 0 (R171). -/
theorem lowestInvalid_some {s : State} {k : Nat} (h : s.lowestInvalid = some k) :
    ∃ hk : k < 256, s.lutValid[k] = false ∧ ∀ j, (hj : j < k) → s.lutValid[j] = true := by
  simp only [State.lowestInvalid, List.findIdx?_eq_some_iff_getElem] at h
  obtain ⟨hk, h1, h2⟩ := h
  have hk' : k < 256 := by simpa using hk
  refine ⟨hk', by simpa using h1, fun j hj => ?_⟩
  simpa using h2 j hj

end Sys2Proof.Machine
end

