-- ==== Sys2Proof/Laws/Validate.lean ====
section
/-! SUPPORT. When `validate` finds no error, in the terms of Safety.lean, and the completion step of every command as one
equation. -/

namespace Sys2Proof.Machine

open Sys2Proof.Safety

/-! ## The completion step -/

/-- The effect of a command whose checks pass. -/
def effect : Instr → State → State
  | .nop => performNop
  | .lutNeg => performLutNeg
  | .lutLog => performLutLog
  | .lutGamma => performLutGamma
  | .lutApply => performLutApply
  | .gray => performGray
  | .rsNearest => performRsNearest
  | .rsBilinear => performRsBilinear
  | .addrRaw => performAddrRaw
  | .addrClamp => performAddrClamp

/-- Every command completes in one step: there is no other outcome (R163). -/
theorem exec_eq (i : Instr) (s : State) : exec i s = .next (runCommand i (effect i) s) := by
  cases i <;> rfl

theorem exec_of_ok {i : Instr} {s : State} (h : validate i s = none) :
    exec i s = .next (effect i s).completeOk := by
  rw [exec_eq, runCommand, h]

theorem exec_of_error {i : Instr} {s : State} {e : CmdError} (h : validate i s = some e) :
    exec i s = .next (s.completeError e) := by
  rw [exec_eq, runCommand, h]

/-- The two ways a command completes (R163). -/
theorem exec_cases {i : Instr} {s t : State} (h : exec i s = .next t) :
    (∃ e, validate i s = some e ∧ t = s.completeError e) ∨
      (validate i s = none ∧ t = (effect i s).completeOk) := by
  cases hv : validate i s with
  | some e =>
    rw [exec_of_error hv] at h
    exact .inl ⟨e, rfl, by injection h with h; exact h.symm⟩
  | none =>
    rw [exec_of_ok hv] at h
    exact .inr ⟨rfl, by injection h with h; exact h.symm⟩

theorem completeOk_eq_succeeded (s : State) : s.completeOk = succeeded s := rfl

theorem completeError_eq_failed (s : State) (e : CmdError) : s.completeError e = failed s e.code e.info := rfl

/-! ## The checks -/

theorem firstError_none {l : List (Option CmdError)} : firstError l = none ↔ ∀ r ∈ l, r = none := by
  induction l with
  | nil => simp [firstError]
  | cons r l ih => cases r <;> simp [firstError, ih]

/-- A first error is one of the checks' errors. -/
theorem firstError_mem {l : List (Option CmdError)} {e : CmdError} (h : firstError l = some e) : some e ∈ l := by
  induction l with
  | nil => simp [firstError] at h
  | cons r l ih =>
    cases r with
    | none => exact List.mem_cons_of_mem _ (ih h)
    | some d =>
      rw [firstError] at h
      exact h ▸ List.mem_cons_self

theorem whenApplies_none {b : Bool} {r : Option CmdError} : whenApplies b r = none ↔ (b = true → r = none) := by
  cases b <;> simp [whenApplies]

theorem toNat_pos_iff {n : Nat} (v : BitVec n) : 1 ≤ v.toNat ↔ ¬v = 0 := by
  rw [← BitVec.toNat_inj]
  simp only [BitVec.ofNat_eq_ofNat, BitVec.toNat_ofNat, Nat.zero_mod]
  omega

theorem channels_iff (c : Byte) : (c.toNat = 1 ∨ c.toNat = 3) ↔ ¬(c ≠ 1 ∧ c ≠ 3) := by
  simp only [ne_eq, ← BitVec.toNat_inj, BitVec.ofNat_eq_ofNat, BitVec.toNat_ofNat]
  omega

theorem checkSourceDims_none (s : State) : checkSourceDims s = none ↔ SourceLegal s := by
  simp only [checkSourceDims, SourceLegal, toNat_pos_iff, channels_iff]
  split <;> simp_all
  split <;> simp_all

theorem checkTargetDims_none (s : State) : checkTargetDims s = none ↔ TargetLegal s := by
  simp only [checkTargetDims, TargetLegal, toNat_pos_iff]
  split <;> simp_all

theorem checkTable_none (s : State) : checkTable s = none ↔ TableLoaded s := by
  simp [checkTable, TableLoaded, lowestInvalid_none]

theorem checkSourceFits_none (s : State) : checkSourceFits s = none ↔ SourceFits s := by
  have h : s.source.fits s.cfg = true ↔ SourceFits s := fits_iff s.cfg s.source
  rw [← h, checkSourceFits]
  split_ifs with hf <;> simp [hf]

/-- V6 and V7 in terms of the destination descriptor. -/
theorem checkRegions_iff {s : State} {i : Instr} {d : Desc} (hd : s.destination i = some d) :
    (checkDestinationFits i s = none ↔ d.base + d.size ≤ s.cfg.pixBytes) ∧
      (checkOverlap i s = none ↔
        ¬(s.source.base < d.base + d.size ∧ d.base < s.source.base + s.source.size)) := by
  rw [← fits_iff, ← overlaps_iff, checkDestinationFits, checkOverlap, hd]
  constructor
  · show (if d.fits s.cfg = true then none else some (CmdError.regionOverflow .destination)) = none ↔ _
    split_ifs with hf <;> simp [hf]
  · show (if s.source.overlaps d = true then some CmdError.aliased else none) = none ↔ _
    split_ifs with hf <;> simp [hf]

theorem checkRegions_none {s : State} {i : Instr} (hi : writesBuffer i = true) :
    (checkDestinationFits i s = none ↔ DestinationFits s (destinationSize s i)) ∧
      (checkOverlap i s = none ↔ RegionsDisjoint s (destinationSize s i)) := by
  cases i with
  | lutApply => exact checkRegions_iff (d := s.applyDestination) rfl
  | rsNearest => exact checkRegions_iff (d := s.resampleDestination) rfl
  | rsBilinear => exact checkRegions_iff (d := s.resampleDestination) rfl
  | gray =>
    have hsize : s.grayDestination.size = destinationSize s .gray := Nat.mul_one _
    have h := checkRegions_iff (s := s) (i := .gray) (d := s.grayDestination) rfl
    rw [hsize] at h
    exact h
  | nop | lutNeg | lutLog | lutGamma | addrRaw | addrClamp => simp [writesBuffer] at hi

/-- V1 to V7 pass for GRAY exactly when it is legal (R164, R211). -/
theorem validate_gray_none (s : State) : validate .gray s = none ↔ BufferLegal s .gray := by
  have hr := checkRegions_none (s := s) (i := .gray) rfl
  simp only [validate, firstError_none, List.forall_mem_cons, whenApplies_none, usesSource, usesTargetDims, usesTable,
    checkCoordinates, checkSourceDims_none, checkSourceFits_none, hr.1, hr.2, BufferLegal]
  simp

/-- V1 to V7 pass for LUT.APPLY exactly when it is legal and the table is loaded (R164, R226). -/
theorem validate_lutApply_none (s : State) :
    validate .lutApply s = none ↔ BufferLegal s .lutApply ∧ TableLoaded s := by
  have hr := checkRegions_none (s := s) (i := .lutApply) rfl
  simp only [validate, firstError_none, List.forall_mem_cons, whenApplies_none, usesSource, usesTargetDims, usesTable,
    checkCoordinates, checkSourceDims_none, checkTable_none, checkSourceFits_none, hr.1, hr.2, BufferLegal]
  simp
  tauto

/-- V1 to V7 pass for a resampling command exactly when it and its target dimensions are legal (R164, R250). -/
theorem validate_resample_none (s : State) {i : Instr} (hi : i = .rsNearest ∨ i = .rsBilinear) :
    validate i s = none ↔ BufferLegal s i ∧ TargetLegal s := by
  have hr := checkRegions_none (s := s) (i := i) (by rcases hi with rfl | rfl <;> rfl)
  rcases hi with rfl | rfl <;>
    (simp only [validate, firstError_none, List.forall_mem_cons, whenApplies_none, usesSource, usesTargetDims,
      usesTable, checkCoordinates, checkSourceDims_none, checkTargetDims_none, checkSourceFits_none, hr.1, hr.2,
      BufferLegal]
     simp
     tauto)

/-- NOP and the build commands pass every check (R164). -/
theorem validate_total_none (s : State) {i : Instr}
    (hi : i = .nop ∨ i = .lutNeg ∨ i = .lutLog ∨ i = .lutGamma) : validate i s = none := by
  rcases hi with rfl | rfl | rfl | rfl <;> rfl

/-- ADDR.RAW passes exactly when its source is legal and fits and its coordinates are in range (R164, R194). -/
theorem validate_addrRaw_none (s : State) :
    validate .addrRaw s = none ↔ SourceLegal s ∧ SourceFits s ∧ (0 ≤ s.pbaX.toInt ∧ s.pbaX.toInt < s.srcW.toNat) ∧
      (0 ≤ s.pbaY.toInt ∧ s.pbaY.toInt < s.srcH.toNat) ∧ s.pbaCh.toNat < s.srcC.toNat := by
  have hc : checkRawCoordinates s = none ↔ (0 ≤ s.pbaX.toInt ∧ s.pbaX.toInt < s.srcW.toNat) ∧
      (0 ≤ s.pbaY.toInt ∧ s.pbaY.toInt < s.srcH.toNat) ∧ s.pbaCh.toNat < s.srcC.toNat := by
    rw [checkRawCoordinates]
    split_ifs <;> simp_all only [State.coordX, State.coordY, State.coordCh, State.source, true_iff, false_iff] <;> omega
  simp only [validate, firstError_none, List.forall_mem_cons, whenApplies_none, usesSource, usesTargetDims, usesTable,
    checkCoordinates, checkSourceDims_none, checkSourceFits_none, checkDestinationFits, checkOverlap, State.destination,
    hc]
  simp

/-- ADDR.CLAMP passes exactly when its source is legal and fits and its channel is in range (R164, R195). -/
theorem validate_addrClamp_none (s : State) :
    validate .addrClamp s = none ↔ SourceLegal s ∧ SourceFits s ∧ s.pbaCh.toNat < s.srcC.toNat := by
  have hc : checkClampCoordinates s = none ↔ s.pbaCh.toNat < s.srcC.toNat := by
    rw [checkClampCoordinates]
    split_ifs <;> simp_all only [State.coordCh, State.source, true_iff, false_iff] <;> omega
  simp only [validate, firstError_none, List.forall_mem_cons, whenApplies_none, usesSource, usesTargetDims, usesTable,
    checkCoordinates, checkSourceDims_none, checkSourceFits_none, checkDestinationFits, checkOverlap, State.destination,
    hc]
  simp

end Sys2Proof.Machine
end

