-- ==== Sys2Proof/Laws/Step.lean ====
section
/-! SUPPORT. What a step can do, said once (spec/20_memory.md R105): every later invariant is a case analysis of these. -/

namespace Sys2Proof.Machine

/-- The completion step has an outcome for every word (R124, R163). -/
theorem completeStep_cases (s : State) :
    (∃ i, decode s.cmdLast = some i ∧ completeStep s = .next (runCommand i (effect i) s)) ∨
      (decode s.cmdLast = none ∧ completeStep s = .next (s.completeError (.unknownOperation s.cmdLast))) := by
  unfold completeStep
  cases decode s.cmdLast with
  | none => exact .inr ⟨rfl, rfl⟩
  | some i => exact .inl ⟨i, rfl, exec_eq i s⟩

/-! ## The step, case by case -/

@[simp] theorem dropEngineTurn_engine (ts : List Turn) : dropEngineTurn (.engine :: ts) = ts := rfl

@[simp] theorem dropEngineTurn_nil : dropEngineTurn [] = [] := rfl

/-- Only an engine's turn is used up by the completion that a held transaction waits for (R147). -/
theorem dropEngineTurn_other {u : Turn} (h : u ≠ .engine) (ts : List Turn) : dropEngineTurn (u :: ts) = u :: ts := by
  cases u <;> first | rfl | exact absurd rfl h

theorem step_hardReset {s : State} {ts : List Turn} (h : s.turns = .hardReset :: ts) :
    step s = .next (s.setTurns ts).hardReset := by
  simp only [step, nextStep, h]

theorem step_held_busy {s : State} {r : BusRequest} (hr : s.held = some r) (hb : s.busy = true)
    (hn : ∀ ts, s.turns ≠ .hardReset :: ts) : step s = completeStep (s.setTurns (dropEngineTurn s.turns)) := by
  unfold step nextStep
  split
  · exact absurd (by assumption) (hn _)
  · simp [hb]
  · simp_all

/-- While a transaction is held, a host turn and a STATUS write wait for the completion (R147). -/
theorem step_held_waits {s : State} {r : BusRequest} {u : Turn} {ts : List Turn} (hr : s.held = some r)
    (hb : s.busy = true) (h : s.turns = u :: ts) (hu : u ≠ .engine) (hh : u ≠ .hardReset) : step s = completeStep s := by
  rw [step_held_busy hr hb (by simp [h, hh]), h, dropEngineTurn_other hu, ← h, setTurns_self]

theorem step_held_idle {s : State} {r : BusRequest} (hr : s.held = some r) (hb : s.busy = false)
    (hn : ∀ ts, s.turns ≠ .hardReset :: ts) : step s = .next (s.performHeld r) := by
  unfold step nextStep
  split
  · exact absurd (by assumption) (hn _)
  · rename_i h _
    rw [hr, Option.some.injEq] at h
    simp [hb, h]
  · simp_all

theorem step_takeTurn {s : State} (hr : s.held = none) (hn : ∀ ts, s.turns ≠ .hardReset :: ts) :
    step s = takeTurn s := by
  unfold step nextStep
  split
  · exact absurd (by assumption) (hn _)
  · simp_all
  · rfl

theorem step_host {s : State} {r : BusRequest} {ts : List Turn} (hr : s.held = none) (h : s.turns = .host r :: ts) :
    step s = .next ((s.setTurns ts).hostTransaction r) := by
  rw [step_takeTurn hr (by simp [h]), takeTurn, h]

theorem step_engine_busy {s : State} {ts : List Turn} (hb : s.busy = true) (h : s.turns = .engine :: ts) :
    step s = completeStep (s.setTurns ts) := by
  cases hr : s.held with
  | none => rw [step_takeTurn hr (by simp [h]), takeTurn, h]; simp [hb]
  | some r => rw [step_held_busy hr hb (by simp [h]), h, dropEngineTurn]

theorem step_empty_busy {s : State} (hb : s.busy = true) (h : s.turns = []) : step s = completeStep s := by
  cases hr : s.held with
  | none => rw [step_takeTurn hr (by simp [h]), takeTurn, h]; simp [hb]
  | some r =>
    rw [step_held_busy hr hb (by simp [h]), h, dropEngineTurn, ← h, setTurns_self]
    simp

theorem step_statusWriteAtCompletion {s : State} {d : Word} {ts : List Turn} (hr : s.held = none) (hb : s.busy = true)
    (h : s.turns = .statusWriteAtCompletion d :: ts) :
    step s = completeStep (((s.setTurns ts).clearStatus d).respond .okayWrite) := by
  rw [step_takeTurn hr (by simp [h]), takeTurn, h]
  simp [hb]

/-! ## The step, inverted -/

/-- What one step does: a hard reset, a completion of some state reached from `s` by giving up turns and by a STATUS
write, the held transaction, a host transaction, a STATUS write of an idle block, or nothing at all. -/
theorem step_cases {s t : State} (h : step s = .next t) :
    (∃ ts, s.turns = .hardReset :: ts ∧ t = (s.setTurns ts).hardReset) ∨
    (∃ ts, s.busy = true ∧ completeStep (s.setTurns ts) = .next t) ∨
    (∃ ts d, s.busy = true ∧
      completeStep (((s.setTurns ts).clearStatus d).respond .okayWrite) = .next t) ∨
    (∃ r, s.busy = false ∧ s.held = some r ∧ t = s.performHeld r) ∨
    (∃ r ts, s.held = none ∧ s.turns = .host r :: ts ∧ t = (s.setTurns ts).hostTransaction r) ∨
    (∃ ts d, s.busy = false ∧ t = ((s.setTurns ts).clearStatus d).respond .okayWrite) ∨
    (∃ ts, s.busy = false ∧ t = s.setTurns ts) := by
  unfold step nextStep at h
  split at h
  · injection h with h
    exact .inl ⟨_, by assumption, h.symm⟩
  · rename_i r hheld _
    split at h
    · rename_i hb
      exact .inr (.inl ⟨_, hb, h⟩)
    · rename_i hb
      injection h with h
      exact .inr (.inr (.inr (.inl ⟨r, by simpa using hb, hheld, h.symm⟩)))
  · unfold takeTurn at h
    split at h
    · split at h
      · rename_i hb
        exact .inr (.inl ⟨s.turns, hb, h⟩)
      · rename_i hb
        injection h with h
        exact .inr (.inr (.inr (.inr (.inr (.inr ⟨s.turns, by simpa using hb, h.symm⟩)))))
    · split at h
      · rename_i hb
        exact .inr (.inl ⟨_, hb, h⟩)
      · rename_i hb
        injection h with h
        exact .inr (.inr (.inr (.inr (.inr (.inr ⟨_, by simpa using hb, h.symm⟩)))))
    · injection h with h
      exact .inr (.inr (.inr (.inr (.inl ⟨_, _, by assumption, by assumption, h.symm⟩))))
    · split at h
      · rename_i hb
        exact .inr (.inr (.inl ⟨_, _, hb, h⟩))
      · rename_i hb
        injection h with h
        exact .inr (.inr (.inr (.inr (.inr (.inl ⟨_, _, by simpa using hb, h.symm⟩)))))
    · injection h with h
      exact .inl ⟨_, by assumption, h.symm⟩

end Sys2Proof.Machine
end

