-- ==== Sys2Proof/Laws/Run.lean ====
section
/-! SUPPORT. Runs of the machine, and what a completion and a host transaction do to BUSY and CMD_COUNT. -/

namespace Sys2Proof.Machine

open Sys2Proof.Safety

theorem run_zero (s : State) : run 0 s = .next s := rfl

/-- A run takes its first step and goes on. -/
theorem run_succ {s t : State} (h : step s = .next t) (k : Nat) : run (k + 1) s = run k t := by
  rw [run, h]

theorem run_one {s t : State} (h : step s = .next t) : run 1 s = .next t := by
  rw [run_succ h, run_zero]

/-- Every completion clears BUSY and counts (R56, R163). -/
theorem completeStep_counts (s : State) :
    ∃ t, completeStep s = .next t ∧ t.busy = false ∧ t.cmdCount = s.cmdCount + 1 := by
  rcases completeStep_cases s with ⟨i, _, h⟩ | ⟨_, h⟩
  · refine ⟨_, h, ?_⟩
    unfold runCommand
    split
    · exact ⟨rfl, rfl⟩
    · cases i <;> exact ⟨rfl, rfl⟩
  · exact ⟨_, h, rfl, rfl⟩

end Sys2Proof.Machine
end

