-- ==== Sys2Proof/Machine/Script.lean ====
section
/-! DEFINITION. The host script syntax (spec/30_encoding.md R126, R127) as the turns it stands for. It is how a program
comes to the machine: `State.withTurns` gives a state the turns of a script. Where a command of a script
completes is open (spec/41_command_control.md R162): the model's choice (DESIGN CHOICE, log entry 18) is that the script
says it. -/

namespace Sys2Proof.Machine

/-- One statement (R126) or pseudo-statement (R127). -/
inductive Stmt where
  | wr (n : RegName) (v : Word)
  | rd (n : RegName)
  | pw8 (a v : Word)
  | pw32 (a v : Word)
  | pr8 (a : Word)
  | pr32 (a : Word)
  /-- A command mnemonic: `wr CMD, <word of that row>`. -/
  | command (i : Instr)
  /-- `wait`: STATUS is read until BUSY = 0. `polls` is how many reads still see BUSY = 1, the open `T_CMD` of R162;
  the loop itself is the host's (R128). -/
  | wait (polls : Nat)
  /-- `run M`: the command, then `wait`. -/
  | run (i : Instr) (polls : Nat)
  | clr
  | setsrc (b w h c : Word)
  | setdst (b : Word)
  | setdstSize (b w h : Word)
  | fill (a : Word) (vs : List Word)
  | setpba (x y ch : Word)
  /-- MODEL'S OWN, no statement of R126 or R127: the running command completes here, between two statements. It is how a
  script says where the open `T_CMD` of R162 ends outside a `wait` (DESIGN CHOICE, log entry 18); while BUSY = 0 it has no
  effect. -/
  | completes
  deriving DecidableEq, Repr

/-- A register write (REG, offset(NAME), 4, W, v). -/
def regWriteTurn (n : RegName) (v : Word) : Turn :=
  .host { space := .reg, offset := n.offset, size := .four, access := .write v }

/-- A register read (REG, offset(NAME), 4, R). -/
def regReadTurn (n : RegName) : Turn :=
  .host { space := .reg, offset := n.offset, size := .four, access := .read }

/-- A pixel byte write (PIX, a, 1, W, v[7:0]). -/
def pixWriteTurn (a v : Word) : Turn :=
  .host { space := .pix, offset := a, size := .one, access := .write (fieldWord (byteOfWord v 0)) }

/-- The byte writes of `fill` at rising offsets. -/
def fillTurns (a : Word) : List Word → List Turn
  | [] => []
  | v :: vs => pixWriteTurn a v :: fillTurns (a + 1) vs

/-- The polls of `wait`: `polls` reads of STATUS, the engine's turn, one more read. The completion's place among the polls
is the model's choice (log entry 18): R127 says only that the reads go on until one sees BUSY = 0. -/
def waitTurns (polls : Nat) : List Turn :=
  List.replicate polls (regReadTurn .status) ++ [.engine, regReadTurn .status]

/-- The turns a statement stands for (R126, R127). A command is its CMD write alone: it brings no completion (log
entry 18). -/
def Stmt.turns : Stmt → List Turn
  | .wr n v => [regWriteTurn n v]
  | .rd n => [regReadTurn n]
  | .pw8 a v => [pixWriteTurn a v]
  | .pw32 a v => [.host { space := .pix, offset := a, size := .four, access := .write v }]
  | .pr8 a => [.host { space := .pix, offset := a, size := .one, access := .read }]
  | .pr32 a => [.host { space := .pix, offset := a, size := .four, access := .read }]
  | .command i => [regWriteTurn .cmd (encode i)]
  | .wait polls => waitTurns polls
  | .run i polls => regWriteTurn .cmd (encode i) :: waitTurns polls
  | .clr => [regWriteTurn .status 0x0000000E]
  | .setsrc b w h c =>
    [regWriteTurn .srcBase b, regWriteTurn .srcW w, regWriteTurn .srcH h, regWriteTurn .srcC c]
  | .setdst b => [regWriteTurn .dstBase b]
  | .setdstSize b w h => [regWriteTurn .dstBase b, regWriteTurn .dstW w, regWriteTurn .dstH h]
  | .fill a vs => fillTurns a vs
  | .setpba x y ch => [regWriteTurn .pbaX x, regWriteTurn .pbaY y, regWriteTurn .pbaCh ch]
  | .completes => [.engine]

/-- The turns of a script. DESIGN CHOICE (log entry 18): a command still running completes at the next `wait` or
`completes`, when the host waits behind a held pixel transaction (R147), or after the last turn, and nowhere else. The
spec leaves the place open (R162; vector Z1 of spec/95_test_vectors.md), so a claim about a program is to hold for every
placing of `completes` among its statements. -/
def scriptTurns (p : List Stmt) : List Turn := p.flatMap Stmt.turns

/-- A state whose coming turns are followed by those of a script. -/
def State.withTurns (s : State) (ts : List Turn) : State := { s with turns := s.turns ++ ts }

end Sys2Proof.Machine
end

