-- ==== Sys2Proof/Tests/Slice0.lean ====
section
/-! SUPPORT. Tests of the model. Every expected word, byte and code is the spec's (spec/30_encoding.md R120, R123;
spec/95_test_vectors.md, whose vector each test names), none was read off the model. The last part shows, for every
statement with hypotheses, states and operands that meet them together, at the edges of each clause's range. -/

open Sys2Proof Sys2Proof.Machine Sys2Proof.Safety

namespace Sys2Proof.Tests

-- One theorem at a time: many kernel evaluations at once take a thread each.
set_option Elab.async false

/-! ## Small states -/

/-- The configuration of the spec's vectors: PIX_BYTES = 4096. -/
def smallConfig : Config := { lastOffset := 4095, initPix := [], initLut := Vector.replicate 256 0 }

/-- The largest configuration, PIX_BYTES = 2^32, and the smallest. -/
def largestConfig : Config := { smallConfig with lastOffset := 0xFFFFFFFF }

def smallestConfig : Config := { smallConfig with lastOffset := 0 }

/-- The block after power-on. -/
def idle : State := State.powerOn smallConfig

/-- Pixel memory holding a list of bytes from offset 0. -/
def withBytes (l : List Byte) : State := { idle with pix := fillRegion smallConfig 0 (fun k => l.getD k 0) l.length [] }

/-- A source (0, w, h, c) of the listed bytes, a destination at 0x100 and a target size. -/
def buffers (l : List Byte) (w h : Half) (c : Byte) (ow oh : Half) : State :=
  { withBytes l with srcW := w, srcH := h, srcC := c, dstBase := 0x100, dstW := ow, dstH := oh }

/-- The engine has accepted the word `w`. -/
def accepted (w : Word) (ts : List Turn) : State := { idle with busy := true, cmdLast := w, turns := ts }

/-- The bytes at `a, ..., a + n - 1` after an outcome, none unless it is a next state. -/
def bytesAfter (o : Host.Outcome State Fault Refusal) (a n : Nat) : List Nat :=
  match o with
  | .next t => (List.range n).map (fun k => (t.readPix (a + k)).toNat)
  | .fault _ => []
  | .refused _ => []

/-- STATUS, ERR_INFO and CMD_COUNT after an outcome. -/
def statusAfter (o : Host.Outcome State Fault Refusal) : List Nat :=
  match o with
  | .next t => [t.statusWord.toNat, t.errInfo.toNat, t.cmdCount.toNat]
  | .fault _ => []
  | .refused _ => []

/-- The listed table entries after an outcome. -/
def entriesAfter (o : Host.Outcome State Fault Refusal) (l : List Byte) : List Nat :=
  match o with
  | .next t => l.map (fun b => (t.lutAt b).toNat)
  | .fault _ => []
  | .refused _ => []

/-- The next state of an outcome. -/
def stateAfter (o : Host.Outcome State Fault Refusal) : State :=
  match o with
  | .next t => t
  | .fault _ => idle
  | .refused _ => idle

/-- PBA_ADDR and PBA_DATA after an outcome. -/
def pbaAfter (o : Host.Outcome State Fault Refusal) : List Nat :=
  match o with
  | .next t => [t.pbaAddr.toNat, t.pbaData.toNat]
  | .fault _ => []
  | .refused _ => []

/-! ## Decoding: the words of R123, written from the fields of R120 (RSV 24 bits, FN 4 bits, OP 4 bits) -/

theorem test_decode_nop : decode 0b00000000000000000000000000000000#32 = some .nop := by decide
theorem test_decode_lutNeg : decode 0b00000000000000000000000000000001#32 = some .lutNeg := by decide
theorem test_decode_lutLog : decode 0b00000000000000000000000000010001#32 = some .lutLog := by decide
theorem test_decode_lutGamma : decode 0b00000000000000000000000000100001#32 = some .lutGamma := by decide
theorem test_decode_lutApply : decode 0b00000000000000000000000000000010#32 = some .lutApply := by decide
theorem test_decode_gray : decode 0b00000000000000000000000000000011#32 = some .gray := by decide
theorem test_decode_rsNearest : decode 0b00000000000000000000000000000100#32 = some .rsNearest := by decide
theorem test_decode_rsBilinear : decode 0b00000000000000000000000000010100#32 = some .rsBilinear := by decide
theorem test_decode_addrRaw : decode 0b00000000000000000000000000000101#32 = some .addrRaw := by decide
theorem test_decode_addrClamp : decode 0b00000000000000000000000000010101#32 = some .addrClamp := by decide

/-- Vector C4: each of these words is reserved. -/
theorem test_decode_reserved :
    [0x10, 0x101, 0x31, 0x12, 0x24, 0x25, 0x06, 0x0F, 0x80000001, 0xFFFFFFFF].map decode =
      List.replicate 10 none := by decide

/-- A table word longer than 32 bits is no command. -/
theorem test_decodeTableWord_long : decodeTableWord 40 0x0100000001 = none ∧ decodeTableWord 32 0x14 = some .rsBilinear := by
  decide

/-! ## Well-formedness: one ill-formed request for each check -/

/-- A command has no field, so there is no ill-formed one (R122). -/
theorem test_wf_commands :
    [Instr.nop, .lutNeg, .lutLog, .lutGamma, .lutApply, .gray, .rsNearest, .rsBilinear, .addrRaw, .addrClamp].all
      Instr.wellFormed = true := by decide

theorem test_wf_window : (regRequest 0x100 .read).wellFormed smallConfig = false := by decide
/-- Vector H4. -/
theorem test_wf_reg_size : ({ regRequest 0x0C .read with size := .two } : BusRequest).wellFormed smallConfig = false := by
  decide
/-- Vector H3. -/
theorem test_wf_reg_alignment : (regRequest 0x0E .read).wellFormed smallConfig = false := by decide
/-- Vector H15. -/
theorem test_wf_pix_size : (pixRequest 0 .two .read).wellFormed smallConfig = false := by decide
/-- Vector H14. -/
theorem test_wf_pix_alignment : (pixRequest 2 .four .read).wellFormed smallConfig = false := by decide
/-- Vector H17. -/
theorem test_wf_pix_end : (pixRequest 0x1000 .one (.write 1)).wellFormed smallConfig = false := by decide
/-- Vector H16. -/
theorem test_wf_last_byte :
    (pixRequest 0xFFC .four .read).wellFormed smallConfig = true ∧
      (pixRequest 0xFFF .one .read).wellFormed smallConfig = true := by decide

/-! ## One step of each command -/

/-- Vector C1. -/
theorem test_nop_completes : statusAfter (step (idle.withCommand 0x00)) = [0x02, 0, 1] := by decide

/-- Vector C2. -/
theorem test_undefined_word : statusAfter (step (idle.withCommand 0x10)) = [0x204, 0x10, 1] := by decide

/-- Section 2.3, LUT.NEG. -/
theorem test_lutNeg_entries :
    entriesAfter (exec .lutNeg idle) [0, 1, 64, 127, 128, 255] = [255, 254, 191, 128, 127, 0] := by decide +kernel

theorem test_lutNeg_status : statusAfter (exec .lutNeg idle) = [0x12, 0, 1] := by decide +kernel

/-- Section 2.3, LUT.LOG: the spot values, r = 15 a tie. -/
theorem test_lutLog_entries :
    entriesAfter (exec .lutLog idle) [0, 1, 2, 3, 7, 14, 15, 16, 63, 64, 127, 128, 200, 254, 255] =
      [0, 32, 51, 64, 96, 125, 128, 130, 191, 192, 223, 223, 244, 255, 255] := by decide +kernel

/-- Section 2.3, LUT.GAMMA at g = 0x23333/65536, the source's 2.2. -/
theorem test_lutGamma_entries :
    entriesAfter (exec .lutGamma { idle with gamma := 0x00023333 }) [0, 1, 15, 64, 128, 192, 254, 255] =
      [0, 0, 1, 12, 56, 137, 253, 255] := by decide +kernel

/-- Section 2.3, LUT.GAMMA at -3.0: the substitution by 1. -/
theorem test_lutGamma_negative :
    entriesAfter (exec .lutGamma { idle with gamma := 0xFFFD0000 }) [0, 1, 64, 128, 254, 255] =
      [0, 1, 64, 128, 254, 255] := by decide +kernel

/-- Vector A1, the table of LUT.NEG. -/
theorem test_lutApply_negative :
    bytesAfter (exec .lutApply ((buffers [0, 255, 128, 64] 2 2 1 0 0).buildLut negEntry)) 0x100 4 =
      [255, 0, 127, 191] := by decide +kernel

/-- Vector A5: no table after reset. -/
theorem test_lutApply_unloaded : statusAfter (exec .lutApply (buffers [] 2 2 1 0 0)) = [0x304, 0, 1] := by
  decide +kernel

/-- Vector G1. -/
theorem test_gray_luma :
    bytesAfter (exec .gray (buffers [255, 0, 0, 0, 255, 0, 0, 0, 255] 3 1 3 0 0)) 0x100 4 = [76, 150, 29, 0] := by
  decide +kernel

/-- Section 2.5: the ties of the luma round upward. -/
theorem test_gray_ties :
    luma 0 0 250 = 29 ∧ luma 0 36 12 = 23 ∧ luma 0 80 110 = 60 ∧ luma 0 118 81 = 79 := by decide

/-- Vector N4. -/
theorem test_rsNearest_three_to_two : bytesAfter (exec .rsNearest (buffers [10, 20, 40] 3 1 1 2 1)) 0x100 2 = [10, 40] := by
  decide +kernel

/-- Vector N2: the clamp of the last index on both axes. -/
theorem test_rsNearest_doubling :
    bytesAfter (exec .rsNearest (buffers [0, 255, 128, 64] 2 2 1 4 4)) 0x100 16 =
      [0, 255, 255, 255, 128, 64, 64, 64, 128, 64, 64, 64, 128, 64, 64, 64] := by decide +kernel

/-- Vector B3: ties, the half-pixel shift and the edge replication on both axes. -/
theorem test_rsBilinear_three_by_three :
    bytesAfter (exec .rsBilinear (buffers [0, 255, 128, 64] 2 2 1 3 3)) 0x100 9 =
      [0, 128, 255, 64, 112, 160, 128, 96, 64] := by decide +kernel

/-- Vector B7: three channels. -/
theorem test_rsBilinear_channels :
    bytesAfter (exec .rsBilinear (buffers [255, 0, 0, 0, 0, 255] 2 1 3 3 1)) 0x100 9 =
      [255, 0, 0, 128, 0, 128, 0, 0, 255] := by decide +kernel

/-- Section 1 item 7: the address of (9, 3) in (0x100, 10, 4, 1) is 0x127. -/
theorem test_addrRaw_address :
    pbaAfter (exec .addrRaw { idle with srcBase := 0x100, srcW := 10, srcH := 4, srcC := 1, pbaX := 9, pbaY := 3 }) =
      [0x127, 0] := by decide +kernel

/-- R194: a negative X is an error 0x06 with information 1. -/
theorem test_addrRaw_negative :
    statusAfter (exec .addrRaw { idle with srcW := 10, srcH := 4, srcC := 1, pbaX := -5, pbaY := 3 }) = [0x604, 1, 1] := by
  decide +kernel

/-- Section 1 item 7: (-5, 3) reads the sample of (0, 3). -/
theorem test_addrClamp_left :
    pbaAfter
        (exec .addrClamp { idle with srcBase := 0x100, srcW := 10, srcH := 4, srcC := 1, pbaX := -5, pbaY := 3 }) =
      [0x11E, 0] := by decide +kernel

/-- Section 1 item 7: (12, 3) reads the sample of (9, 3). -/
theorem test_addrClamp_right :
    pbaAfter
        (exec .addrClamp { idle with srcBase := 0x100, srcW := 10, srcH := 4, srcC := 1, pbaX := 12, pbaY := 3 }) =
      [0x127, 0] := by decide +kernel

/-! ## Host transactions -/

/-- Vector H6. -/
theorem test_field_write :
    ((idle.hostTransaction (regRequest 0x1C (.write 0x12345678))).hostTransaction (regRequest 0x1C .read)).responses =
      [.okayWrite, .okayRead 0x00005678] := by decide

/-- Vectors H11 and H13. -/
theorem test_pixel_bytes :
    (((idle.hostTransaction (pixRequest 0 .four (.write 0x4080FF00))).hostTransaction
            (pixRequest 2 .one (.write 0x17))).hostTransaction (pixRequest 0 .four .read)).responses =
      [.okayWrite, .okayWrite, .okayRead 0x4017FF00] := by decide

/-- Vector H21: the index wraps. -/
theorem test_lut_index_wraps :
    (({ idle with lutIndex := 0xFE }.hostTransaction (regRequest 0x48 (.write 7))).hostTransaction
        (regRequest 0x48 (.write 8))).lutIndex = 0 := by decide +kernel

/-- Vector H19. -/
theorem test_status_clear :
    ({ idle with done := true, err := true, wign := true }.hostTransaction (regRequest 0x0C (.write 2))).statusWord =
      0x0000000C := by decide

/-! ## Witnesses: the hypotheses of the statements can be met -/

theorem test_witness_DecodeOfEncodeIsTheCommand : Instr.wellFormed .rsBilinear = true := by decide

/-- Every clause of R125 at its edge, beside the nearest words that are commands. -/
theorem test_witness_ReservedWordsCompleteWithUnknownOperation :
    [0x00000100, 0x80000000, 0x10, 0xF0, 0x31, 0xF1, 0x12, 0x13, 0x24, 0x25, 0x06, (0x0F : Word)].all
        (fun w => (accepted w []).cmdLast == w && decode w == none) = true ∧
      [0x00, 0x01, 0x11, 0x21, 0x02, 0x03, 0x04, 0x14, 0x05, (0x15 : Word)].all
        (fun w => decode w != none) = true := by decide

theorem test_witness_StepRunsTheDecodedCommand :
    ((accepted 0x14 [.engine]).busy = true ∧ decode (accepted 0x14 [.engine]).cmdLast = some .rsBilinear ∧
      Instr.wellFormed .rsBilinear = true ∧ (accepted 0x14 [.engine]).turns = .engine :: []) ∧
    (accepted 0x14 []).turns = [] ∧
    ({ accepted 0x14 [.host (regRequest 0 .read)] with held := some (pixRequest 0 .one .read) } : State).held =
      some (pixRequest 0 .one .read) ∧
    ({ accepted 0x14 [.statusWriteAtCompletion 2] with held := some (pixRequest 0 .one .read) } : State).turns =
      .statusWriteAtCompletion 2 :: [] ∧
    ((accepted 0x101 [.engine]).busy = true ∧ decode (accepted 0x101 [.engine]).cmdLast = none) := by decide

theorem test_witness_AcceptedCommandCompletes :
    (accepted 0x03 [.host (regRequest 0x0C .read), .engine]).busy = true ∧
      Turn.hardReset ∉ (accepted 0x03 [.host (regRequest 0x0C .read), .engine]).turns := by decide

theorem test_idle_invariant : MachineInv idle :=
  ⟨rfl, .inl ⟨rfl, rfl⟩, .inl ⟨rfl, rfl, rfl⟩, by decide, fun _ h => by cases h⟩

theorem test_witness_EveryStepKeepsTheInvariant : MachineInv idle ∧ ∃ t, step idle = .next t :=
  ⟨test_idle_invariant, _, rfl⟩

theorem test_witness_register_offsets :
    (RegOffset 0x00 ∧ (0x00 : Word) ≠ 0x48) ∧ (RegOffset 0x64 ∧ (0x64 : Word) ≠ 0x48) ∧ RegOffset 0x68 ∧
      RegOffset 0xFC ∧ (0x68 : Word).toNat ≥ 0x68 ∧ ((0xFE : Word).toNat < 256 ∧ (0xFE : Word).toNat % 4 ≠ 0) := by
  unfold RegOffset
  decide

theorem test_witness_HardResetLeavesTheResetState :
    ({ idle with turns := [.hardReset] } : State).turns = .hardReset :: [] ∧
      ({ idle with turns := [.hardReset] } : State).busy = false := by decide

/-- A running command that writes a buffer, one whose checks fail, and a reserved word. -/
theorem test_witness_HardResetDuringACommandIsConfined :
    (({ buffers [] 2 2 3 0 0 with busy := true, cmdLast := 0x03, turns := [.hardReset] } : State).busy = true ∧
      decode ({ buffers [] 2 2 3 0 0 with busy := true, cmdLast := 0x03 } : State).cmdLast = some .gray ∧
      validate .gray (buffers [] 2 2 3 0 0) = none) ∧
    (decode (accepted 0x03 [.hardReset]).cmdLast = some .gray ∧ validate .gray (accepted 0x03 [.hardReset]) ≠ none) ∧
    decode (accepted 0x10 [.hardReset]).cmdLast = none := by decide +kernel

theorem test_witness_SoftResetKeepsPixelMemory :
    (0x00000001 : Word).getLsbD 0 = true ∧ (0xFFFFFFFF : Word).getLsbD 0 = true ∧ idle.busy = false ∧
      (accepted 0 []).busy = true := by decide

theorem test_witness_IdentificationNeverChanges :
    largestConfig.pixBytes = 2 ^ 32 ∧ smallestConfig.pixBytes = 1 ∧ ∃ t, step (State.powerOn largestConfig) = .next t :=
  ⟨rfl, rfl, _, rfl⟩

theorem test_witness_RegisterWriteEffects :
    ((0x0C : Word).toNat < 256 ∧ AccessSize.two ≠ .four) ∧ idle.busy = false ∧ (accepted 0 []).busy = true ∧
      (0x00000002 : Word).getLsbD 0 = false ∧ (0x00000003 : Word).getLsbD 0 = true := by decide

/-- A completion without error and one with an error. -/
theorem test_witness_CompletionSurvivesStatusWriteInTheSameStep :
    ((accepted 0x00 [.statusWriteAtCompletion 2]).busy = true ∧ (accepted 0x00 [.statusWriteAtCompletion 2]).held = none ∧
      (accepted 0x00 [.statusWriteAtCompletion 2]).turns = .statusWriteAtCompletion 2 :: []) ∧
    statusAfter (step (accepted 0x00 [.statusWriteAtCompletion 2])) = [0x02, 0, 1] ∧
    statusAfter (step (accepted 0x10 [.statusWriteAtCompletion 0xFFFFFFFF])) = [0x204, 0x10, 1] := by decide +kernel

theorem test_witness_WritesWhileBusyAreIgnored :
    (accepted 0x14 []).busy = true ∧ (0x10 : Word) ≠ 0x0C ∧ RegOffset 0x10 ∧ RegOffset 0x0C := by
  unfold RegOffset
  decide

/-- `IssueStoresTheWordAndNothingElse`, `LutDataWriteStoresAndAdvances`: the block is idle; the index at both ends. -/
theorem test_witness_idle_writes :
    idle.busy = false ∧ ({ idle with lutIndex := 0xFF } : State).busy = false ∧
      ({ idle with lutIndex := 0xFF } : State).lutIndex.toNat = 255 := by decide

/-- Both spaces, an error and an answer in each. -/
theorem test_witness_BusErrorExactlyOnIllFormedTransactions :
    ((regRequest 0xFE .read).space = .reg ∧ (regRequest 0xFE .read).offset.toNat < 256 ∧
      (idle.hostTransaction (regRequest 0xFE .read)).responses = [.error]) ∧
    ((pixRequest 0x1000 .one .read).space = .pix ∧ idle.busy = false ∧
      (idle.hostTransaction (pixRequest 0x1000 .one .read)).responses = [.error] ∧
      (idle.hostTransaction (pixRequest 0xFFF .one .read)).responses ≠ [.error]) := by decide

theorem test_witness_PixelTransactionsAreHeldWhileBusy :
    (({ idle with turns := [.host (regRequest 0xFC .read)] } : State).held = none ∧
      ({ idle with turns := [.host (regRequest 0xFC .read)] } : State).turns = .host (regRequest 0xFC .read) :: []) ∧
    ((accepted 0x03 [.host (pixRequest 0 .one .read)]).busy = true ∧
      (accepted 0x03 [.host (pixRequest 0 .one .read)]).held = none ∧ (pixRequest 0 .one .read).space = .pix) ∧
    (({ accepted 0x03 [.host (regRequest 0 .read)] with held := some (pixRequest 0 .one .read) } : State).busy = true ∧
      ({ accepted 0x03 [.host (regRequest 0 .read)] with held := some (pixRequest 0 .one .read) } : State).held =
        some (pixRequest 0 .one .read)) ∧
    (({ idle with held := some (pixRequest 0 .one .read) } : State).busy = false ∧
      ∀ us, ({ idle with held := some (pixRequest 0 .one .read) } : State).turns ≠ .hardReset :: us) ∧
    ({ idle with held := some (pixRequest 0 .one .read), turns := [.hardReset] } : State).turns = .hardReset :: [] := by
  refine ⟨by decide, by decide, by decide, ⟨by decide, fun us h => ?_⟩, by decide⟩
  cases h

/-- `PixelReadsReturnMemory`, `PixelWritesStoreTheirBytesOnly`, `MixedWidthAccessesAreLittleEndian`: the last byte and
word of a 4096-byte memory, the first past it, a misaligned word, and the top of the largest memory. -/
theorem test_witness_pixel_accesses :
    idle.busy = false ∧ (0xFFF : Word).toNat + 1 ≤ idle.cfg.pixBytes ∧ (0x1000 : Word).toNat + 1 > idle.cfg.pixBytes ∧
      ((0xFFC : Word).toNat % 4 = 0 ∧ (0xFFC : Word).toNat + 4 ≤ idle.cfg.pixBytes) ∧
      (0x1000 : Word).toNat + 4 > idle.cfg.pixBytes ∧ (0xFFD : Word).toNat % 4 ≠ 0 ∧
      (0xFFFFFFFC : Word).toNat + 4 ≤ largestConfig.pixBytes ∧ (0xFFFFFFFF : Word).toNat + 1 ≤ largestConfig.pixBytes := by
  decide

theorem test_witness_HostCannotDisturbARunningCommand : (accepted 0x03 []).busy = true := by decide

theorem test_witness_ErrorCompletionWritesExactly :
    validate .gray idle = some (.invalidDimension .srcW) ∧ decode (accepted 0x101 []).cmdLast = none := by decide +kernel

/-- `CommandsLeaveOperandsAlone`, `CommandsWriteOnlyTheirDestination`, `GammaIsReadOnlyByLutGamma`,
`AddrCommandsWriteOnlyPba`: every command answers a next state; offsets outside and inside the regions. -/
theorem test_witness_completions :
    (∃ t, exec .gray (buffers [] 2 2 3 0 0) = .next t) ∧ (∃ t, exec .addrClamp (buffers [] 2 2 3 0 0) = .next t) ∧
      Instr.gray ∉ [Instr.lutNeg, .lutLog, .lutGamma] ∧ Instr.gray ≠ .lutGamma ∧
      ¬InDestination (buffers [] 2 2 3 0 0) .gray 0x104 ∧ ¬InDestination (buffers [] 2 2 3 0 0) .gray 0xFF ∧
      InSource (buffers [] 2 2 3 0 0) 11 := by
  refine ⟨⟨_, rfl⟩, ⟨_, rfl⟩, by decide, by decide, ?_, ?_, ?_⟩
  all_goals
    first
    | unfold InDestination destinationSize
    | unfold InSource sourceSize
    decide +kernel

/-- One error of each kind. -/
theorem test_witness_ErrorsEachCommandCanRaise :
    mayRaise .rsNearest (.invalidDimension .dstH) = true ∧
      validate .rsNearest (buffers [] 2 2 1 2 0) = some (.invalidDimension .dstH) ∧
      validate .lutApply (buffers [] 2 2 1 0 0) = some (.lutNotLoaded 0) ∧ mayRaise .lutApply (.lutNotLoaded 255) = true ∧
      validate .gray { buffers [] 2 2 3 0 0 with dstBase := 0xFFD } = some (.regionOverflow .destination) ∧
      validate .gray { buffers [] 2 2 3 0 0 with dstBase := 0x00B } = some .aliased ∧
      validate .addrClamp { buffers [] 2 2 3 0 0 with pbaCh := 3 } = some (.addrRange .channel) := by decide +kernel

/-- `SourceDimensionsAreChecked`: each clause, with the channel counts next to the legal ones. -/
theorem test_witness_SourceDimensionsAreChecked :
    Instr.addrRaw ∈ [Instr.lutApply, .gray, .rsNearest, .rsBilinear, .addrRaw, .addrClamp] ∧
      (buffers [] 0 1 1 0 0).srcW.toNat = 0 ∧
      ((buffers [] 1 0 1 0 0).srcW.toNat ≠ 0 ∧ (buffers [] 1 0 1 0 0).srcH.toNat = 0) ∧
      [0, 2, 4, 255].all
        (fun c => (buffers [] 1 1 c 0 0).srcC.toNat != 1 && (buffers [] 1 1 c 0 0).srcC.toNat != 3) = true := by decide

theorem test_source_legal : SourceLegal (buffers [] 1 1 3 0 0) ∧ SourceLegal (buffers [] 0xFFFF 0xFFFF 1 0 0) := by
  unfold SourceLegal
  decide

theorem test_witness_TargetDimensionsAreChecked :
    SourceLegal (buffers [] 1 1 3 0 1) ∧ (buffers [] 1 1 3 0 1).dstW.toNat = 0 ∧ (buffers [] 1 1 3 1 0).dstW.toNat ≠ 0 ∧
      (buffers [] 1 1 3 1 0).dstH.toNat = 0 := by
  unfold SourceLegal
  decide

/-- The state of vector A6: every entry but the last is loaded. -/
def almostLoaded : State :=
  { buffers [] 2 2 1 0 0 with lutValid := (Vector.replicate 256 true).set 255 false }

theorem test_witness_LowestUnloadedEntryIsReported :
    SourceLegal almostLoaded ∧ almostLoaded.lutValid[255] = false ∧ (∀ j, (hj : j < 255) → almostLoaded.lutValid[j] = true) ∧
      SourceLegal (buffers [] 2 2 1 0 0) ∧ (buffers [] 2 2 1 0 0).lutValid[0] = false := by
  unfold SourceLegal
  refine ⟨by decide +kernel, by decide +kernel, by decide +kernel, by decide +kernel, by decide +kernel⟩

/-- V5 fails by one byte; V6 fails by one byte; V7 fails by one byte; equal bases. -/
theorem test_witness_RegionsAreChecked :
    (DimensionsLegal { buffers [] 1 1 3 1 1 with srcBase := 0xFFE } .rsNearest ∧
      ¬SourceFits { buffers [] 1 1 3 1 1 with srcBase := 0xFFE }) ∧
    (SourceFits (buffers [] 2 2 3 0 0) ∧
      ¬DestinationFits { buffers [] 2 2 3 0 0 with dstBase := 0xFFD } (destinationSize (buffers [] 2 2 3 0 0) .gray)) ∧
    (DestinationFits { buffers [] 2 2 3 0 0 with dstBase := 0x00B } (destinationSize (buffers [] 2 2 3 0 0) .gray) ∧
      ¬RegionsDisjoint { buffers [] 2 2 3 0 0 with dstBase := 0x00B } (destinationSize (buffers [] 2 2 3 0 0) .gray) ∧
      RegionsDisjoint { buffers [] 2 2 3 0 0 with dstBase := 0x00C } (destinationSize (buffers [] 2 2 3 0 0) .gray)) ∧
    DimensionsLegal { buffers [] 1 1 1 1 1 with dstBase := 0 } .rsBilinear ∧
    ({ buffers [] 1 1 1 1 1 with dstBase := 0 } : State).srcBase = ({ buffers [] 1 1 1 1 1 with dstBase := 0 } : State).dstBase := by
  unfold DimensionsLegal SourceLegal TargetLegal SourceFits DestinationFits RegionsDisjoint sourceSize destinationSize
  decide +kernel

/-- The block about to complete GRAY on a 3x1 buffer of three channels, OUT_* not zero. -/
def grayAccepted : State := { buffers [] 3 1 3 0 0 with busy := true, cmdLast := 0x03, outW := 7, outH := 7, outC := 1 }

/-- A completion that writes OUT_*, and one with an error that does not. -/
theorem test_witness_OutputRegistersDescribeTheLastBuffer :
    (∃ t, exec .gray (buffers [] 3 1 3 0 0) = .next t ∧ t.errCode = 0 ∧ writesBuffer .gray = true ∧ t.outW = 3 ∧ t.outC = 1) ∧
      ∃ t, exec .gray idle = .next t ∧ t.errCode ≠ 0 :=
  ⟨⟨_, rfl, by decide +kernel, rfl, by decide +kernel, by decide +kernel⟩, _, rfl, by decide +kernel⟩

/-- The three ways of a step with OUT_*: the completion, each reset, and a host read while BUSY = 1, which leaves them. -/
theorem test_witness_OutputRegistersDescribeTheLastBuffer_steps :
    (stateAfter (step grayAccepted)).outW = 3 ∧ (stateAfter (step grayAccepted)).cmdCount = 1 ∧
      (stateAfter (step { grayAccepted with turns := [.hardReset] })).outW = 0 ∧
      (stateAfter (step { grayAccepted with busy := false, turns := [.host (regRequest 0x08 (.write 1))] })).outW = 0 ∧
      (stateAfter (step { grayAccepted with turns := [.host (regRequest 0x34 .read)] })).outW = 7 := by decide +kernel

theorem test_witness_PointMappingLaws :
    (1 ≤ 1 ∧ 1 ≤ 65536 ∧ 1 < 65536 ∧ 65536 < 2147483647 ∧ 254 ≤ 255) ∧ gammaValue 1 1 255 = 255 ∧ gammaValue 2 1 64 = 16 ∧
      gammaValue 1 2 1 = 16 := by decide +kernel

theorem test_witness_LutGammaMatchesTheRealPower :
    1 ≤ (1 : Byte).toNat ∧ 1 ≤ (255 : Byte).toNat ∧ 0 < (0x7FFFFFFF : Word).toInt ∧ ¬0 < (0x80000000 : Word).toInt ∧
      ¬0 < (0 : Word).toInt := by decide

/-- LUT.APPLY on a loaded table (vector A1). -/
def applyState : State := (buffers [0, 255, 128, 64] 2 2 1 0 0).buildLut negEntry

theorem test_witness_LutApplyMapsEveryByte :
    BufferLegal applyState .lutApply ∧ TableLoaded applyState ∧ 3 < sourceSize applyState := by
  unfold BufferLegal SourceLegal SourceFits DestinationFits RegionsDisjoint TableLoaded sourceSize destinationSize
  refine ⟨by decide +kernel, by decide +kernel, by decide +kernel⟩

theorem test_witness_GrayWritesCopyOrLuma :
    (BufferLegal (buffers [] 3 1 3 0 0) .gray ∧ (buffers [] 3 1 3 0 0).srcC.toNat = 3) ∧
      (BufferLegal (buffers [] 3 1 1 0 0) .gray ∧ (buffers [] 3 1 1 0 0).srcC.toNat = 1) := by
  unfold BufferLegal SourceLegal SourceFits DestinationFits RegionsDisjoint sourceSize destinationSize
  decide +kernel

theorem test_witness_LumaLaws : 255 ≤ 255 ∧ (299 * 0 + 587 * 0 + 114 * 250) % 1000 = 500 := by decide

/-- `NearestCopiesTheNearestPixel`, `BilinearMatchesTheRationalFormula`: up, down, and the last output sample. -/
theorem test_witness_resampling :
    (BufferLegal (buffers [] 2 2 3 4 4) .rsNearest ∧ TargetLegal (buffers [] 2 2 3 4 4)) ∧
      (BufferLegal (buffers [] 4 4 1 2 1) .rsBilinear ∧ TargetLegal (buffers [] 4 4 1 2 1)) ∧
      3 < (buffers [] 2 2 3 4 4).dstW.toNat ∧ 3 < (buffers [] 2 2 3 4 4).dstH.toNat ∧ 2 < (buffers [] 2 2 3 4 4).srcC.toNat := by
  unfold BufferLegal SourceLegal TargetLegal SourceFits DestinationFits RegionsDisjoint sourceSize destinationSize
  decide +kernel

theorem test_witness_BilinearStaysWithinItsSamples :
    BufferLegal (buffers [0, 255] 2 1 1 4 1) .rsBilinear ∧ TargetLegal (buffers [0, 255] 2 1 1 4 1) ∧
      (∃ t, exec .rsBilinear (buffers [0, 255] 2 1 1 4 1) = .next t) ∧ 3 < (buffers [0, 255] 2 1 1 4 1).dstW.toNat ∧
      0 < (buffers [0, 255] 2 1 1 4 1).dstH.toNat ∧ 0 < (buffers [0, 255] 2 1 1 4 1).srcC.toNat ∧
      ∀ x y : ℤ, 0 ≤ edgeSample (buffers [0, 255] 2 1 1 4 1) x y 0 ∧ edgeSample (buffers [0, 255] 2 1 1 4 1) x y 0 ≤ 255 := by
  refine ⟨?_, ?_, ⟨_, rfl⟩, by decide, by decide, by decide, fun x y => ⟨Nat.zero_le _, ?_⟩⟩
  · unfold BufferLegal SourceLegal SourceFits DestinationFits RegionsDisjoint sourceSize destinationSize
    decide +kernel
  · unfold TargetLegal
    decide
  · exact Nat.le_of_lt_succ (BitVec.isLt _)

theorem test_witness_ResamplingToTheSameSizeIsTheIdentity :
    Instr.rsNearest ∈ [Instr.rsNearest, .rsBilinear] ∧ BufferLegal (buffers [] 2 2 3 2 2) .rsNearest ∧
      BufferLegal (buffers [] 2 2 3 2 2) .rsBilinear ∧ TargetLegal (buffers [] 2 2 3 2 2) ∧
      (buffers [] 2 2 3 2 2).dstW = (buffers [] 2 2 3 2 2).srcW ∧ (buffers [] 2 2 3 2 2).dstH = (buffers [] 2 2 3 2 2).srcH := by
  unfold BufferLegal SourceLegal TargetLegal SourceFits DestinationFits RegionsDisjoint sourceSize destinationSize
  decide +kernel

/-- Section 2.7, 2 to 4: the first and the last decomposition lie at the two ends of R255's range. -/
theorem test_witness_AxisNeighbourRange :
    (0 < 4 ∧ 1 ≤ 2 ∧ axis 0 2 4 = ⟨-1, 6, 8⟩) ∧ (3 < 4 ∧ axis 3 2 4 = ⟨1, 2, 8⟩) ∧ axis 1 3 2 = ⟨1, 3, 4⟩ := by decide

/-- `NegatingTwiceRestoresTheBuffer`: the first buffer is legal, and so is the second, which lies after the first. -/
theorem test_witness_NegatingTwiceRestoresTheBuffer :
    BufferLegal (buffers [0, 255, 128, 64] 2 2 1 0 0) .lutApply ∧
      BufferLegal
        { stateAfter (exec .lutApply (stateAfter (exec .lutNeg (buffers [0, 255, 128, 64] 2 2 1 0 0)))) with
          srcBase := 0x100, dstBase := 0x104 } .lutApply := by
  unfold BufferLegal SourceLegal SourceFits DestinationFits RegionsDisjoint sourceSize destinationSize
  decide +kernel

/-- `NearestDoublingThenHalvingRestores`: the first buffer is legal and twice as large, and the second is legal. -/
theorem test_witness_NearestDoublingThenHalvingRestores :
    (BufferLegal (buffers [0, 255, 128, 64] 2 2 1 4 4) .rsNearest ∧
      (buffers [0, 255, 128, 64] 2 2 1 4 4).dstW.toNat = 2 * (buffers [0, 255, 128, 64] 2 2 1 4 4).srcW.toNat ∧
      (buffers [0, 255, 128, 64] 2 2 1 4 4).dstH.toNat = 2 * (buffers [0, 255, 128, 64] 2 2 1 4 4).srcH.toNat) ∧
      BufferLegal
        { stateAfter (exec .rsNearest (buffers [0, 255, 128, 64] 2 2 1 4 4)) with
          srcBase := 0x100, srcW := 4, srcH := 4, dstBase := 0x110, dstW := 2, dstH := 2 } .rsNearest := by
  unfold BufferLegal SourceLegal SourceFits DestinationFits RegionsDisjoint sourceSize destinationSize
  decide +kernel

/-- The last triple and the last byte of a region that ends where pixel memory ends. -/
theorem test_witness_AddressIsABijection :
    (1 < 2 ∧ 1 < 2 ∧ 2 < 3) ∧ (⟨4084, 2, 2, 3⟩ : Desc).addr 1 1 2 = 4095 ∧
      (⟨4084, 2, 2, 3⟩ : Desc).base + (⟨4084, 2, 2, 3⟩ : Desc).size ≤ smallConfig.pixBytes := by decide

/-- Every clause of R194, just outside and just inside. -/
theorem test_witness_AddrRawReadsTheAddressedSample :
    (SourceLegal (buffers [] 2 2 3 0 0) ∧ SourceFits (buffers [] 2 2 3 0 0)) ∧
      ((-1 : Word).toInt < 0 ∧ (2 : ℤ) ≤ (2 : Word).toInt) ∧
      (0 ≤ (0 : Word).toInt ∧ (1 : Word).toInt < 2) ∧ (3 ≤ (3 : Byte).toNat ∧ (2 : Byte).toNat < 3) := by
  unfold SourceLegal SourceFits sourceSize
  decide +kernel

theorem test_witness_AddrClampReadsTheEdgeSample :
    (SourceLegal (buffers [] 2 2 3 0 0) ∧ SourceFits (buffers [] 2 2 3 0 0)) ∧ (3 ≤ (3 : Byte).toNat ∧ (2 : Byte).toNat < 3) ∧
      edge (-2147483648) 2 = 0 ∧ edge 2147483647 2 = 1 := by
  unfold SourceLegal SourceFits sourceSize
  decide +kernel

theorem test_witness_IdleBlockWaits :
    (idle.busy = false ∧ idle.held = none ∧ idle.turns = []) ∧
      ({ idle with turns := [.engine] } : State).turns = .engine :: [] ∧
      ({ idle with turns := [.statusWriteAtCompletion 2] } : State).turns = .statusWriteAtCompletion 2 :: [] := by decide

/-- Vector Z1: the two places where the NOP may complete are two scripts. -/
theorem test_script_completion :
    scriptTurns [.command .nop, .wr .srcW 5, .completes] = [regWriteTurn .cmd 0, regWriteTurn .srcW 5, .engine] ∧
      scriptTurns [.command .nop, .completes, .wr .srcW 5] = [regWriteTurn .cmd 0, .engine, regWriteTurn .srcW 5] := by
  decide

end Sys2Proof.Tests
end

section
/-! SUPPORT. What a completion leaves alone and what it reports (spec/41_command_control.md R163, R173). -/

namespace Sys2Proof.Machine

open Sys2Proof.Safety

/-! ### What the effect of a command leaves alone -/

@[simp] theorem effect_done (i : Instr) (s : State) : (effect i s).done = s.done := by cases i <;> rfl
@[simp] theorem effect_err (i : Instr) (s : State) : (effect i s).err = s.err := by cases i <;> rfl
@[simp] theorem effect_wign (i : Instr) (s : State) : (effect i s).wign = s.wign := by cases i <;> rfl
@[simp] theorem effect_cmdCount (i : Instr) (s : State) : (effect i s).cmdCount = s.cmdCount := by cases i <;> rfl
@[simp] theorem effect_cfg (i : Instr) (s : State) : (effect i s).cfg = s.cfg := by cases i <;> rfl

/-! ### The two ways of a completion -/

/-- No error has the code of a completion without error (R280). -/
theorem code_ne_zero (e : CmdError) : e.code ≠ 0 := by cases e <;> simp [CmdError.code]

/-- A completion is an error completion, with the error of V1 or of the decoded command's checks, or that of a decoded
command whose checks pass (R163). -/
theorem completeStep_inv {s t : State} (h : completeStep s = .next t) :
    (∃ e, t = s.completeError e ∧
      ((decode s.cmdLast = none ∧ e = .unknownOperation s.cmdLast) ∨
        ∃ i, decode s.cmdLast = some i ∧ validate i s = some e)) ∨
    ∃ i, decode s.cmdLast = some i ∧ validate i s = none ∧ t = (effect i s).completeOk := by
  unfold completeStep at h
  cases hd : decode s.cmdLast with
  | none =>
    rw [hd] at h
    injection h with h
    exact .inl ⟨_, h.symm, .inl ⟨rfl, rfl⟩⟩
  | some i =>
    rw [hd] at h
    obtain ⟨e, hv, rfl⟩ | ⟨hv, rfl⟩ := exec_cases h
    · exact .inl ⟨e, rfl, .inr ⟨i, rfl, hv⟩⟩
    · exact .inr ⟨i, rfl, hv, rfl⟩

/-- What a completion does to the flags: exactly one of DONE and ERR is set, by the error code, and WIGN stays (R40, R163,
R173). -/
theorem completeStep_flags {s t : State} (h : completeStep s = .next t) :
    t.busy = false ∧ t.wign = s.wign ∧ (t.errCode = 0 → t.done = true ∧ t.err = s.err) ∧
      (t.errCode ≠ 0 → t.err = true ∧ t.done = s.done) := by
  obtain ⟨e, rfl, _⟩ | ⟨i, _, _, rfl⟩ := completeStep_inv h
  · exact ⟨rfl, rfl, fun h => absurd h (code_ne_zero e), fun _ => ⟨rfl, rfl⟩⟩
  · simp

theorem completeStep_cfg {s t : State} (h : completeStep s = .next t) : t.cfg = s.cfg := by
  obtain ⟨e, rfl, _⟩ | ⟨i, _, _, rfl⟩ := completeStep_inv h <;> simp

end Sys2Proof.Machine
end

section
/-! SUPPORT. What a host transaction can do, said once (spec/40_host_port.md R141 to R151), and what a register
transaction of the statements' form does. -/

namespace Sys2Proof.Machine

open Sys2Proof.Safety

/-! ### Transactions inverted -/

/-- A register transaction does nothing, only answers, takes a STATUS write or raises WIGN while BUSY = 1, or writes a named
register while BUSY = 0. -/
theorem regTransaction_cases (s : State) (r : BusRequest) :
    s.regTransaction r = s ∨
    (∃ a, s.regTransaction r = s.respond a) ∨
    (∃ d, s.busy = true ∧ s.regTransaction r = (s.clearStatus d).respond .okayWrite) ∨
    (s.busy = true ∧ s.regTransaction r = s.raiseWign.respond .okayWrite) ∨
    (∃ n d, s.busy = false ∧ r.size = .four ∧ r.offset = n.offset ∧ r.access = .write d ∧
      s.regTransaction r = (s.writeReg d n).respond .okayWrite) := by
  by_cases h256 : 256 ≤ r.offset.toNat
  · exact .inl (if_pos h256)
  by_cases hbad : r.size ≠ .four ∨ r.offset.toNat % 4 ≠ 0
  · exact .inr (.inl ⟨_, regTransaction_error (not_le.mp h256) hbad⟩)
  unfold State.regTransaction
  rw [if_neg h256, if_neg hbad]
  cases hacc : r.access with
  | read => exact .inr (.inl ⟨_, rfl⟩)
  | write d =>
    cases hb : s.busy with
    | true =>
      by_cases hstatus : r.offset = 0x0C
      · have hw := hstatus ▸ busyWrite_status s d
        exact .inr (.inr (.inl ⟨d, rfl, congrArg (·.respond .okayWrite) hw⟩))
      · have hw := busyWrite_other s hstatus d
        exact .inr (.inr (.inr (.inl ⟨rfl, congrArg (·.respond .okayWrite) hw⟩)))
    | false =>
      cases hn : regAt r.offset with
      | none => exact .inr (.inl ⟨.okayWrite, by simp [State.idleWrite, hn]⟩)
      | some n =>
        refine .inr (.inr (.inr (.inr ⟨n, d, rfl, ?_, regAt_some.mp hn, rfl, by simp [State.idleWrite, hn]⟩)))
        exact not_not.mp (not_or.mp hbad).1

/-- A pixel transaction only answers, or writes one byte or four bytes inside pixel memory. -/
theorem pixTransaction_cases (s : State) (r : BusRequest) :
    (∃ a, s.pixTransaction r = s.respond a) ∨
    (∃ d : Word, r.offset.toNat + 1 ≤ s.cfg.pixBytes ∧
      s.pixTransaction r = (s.writePix r.offset.toNat (d.setWidth 8)).respond .okayWrite) ∨
    (∃ d, r.offset.toNat + 4 ≤ s.cfg.pixBytes ∧
      s.pixTransaction r = (s.writePix32 r.offset.toNat d).respond .okayWrite) := by
  unfold State.pixTransaction
  split
  case h_1 =>
    unfold State.pixRead8
    split <;> exact .inl ⟨_, rfl⟩
  case h_2 _ _ d _ _ =>
    unfold State.pixWrite8
    split
    · exact .inl ⟨_, rfl⟩
    · exact .inr (.inl ⟨d, by omega, rfl⟩)
  case h_3 => exact .inl ⟨_, rfl⟩
  case h_4 => exact .inl ⟨_, rfl⟩
  case h_5 =>
    unfold State.pixRead32
    split <;> exact .inl ⟨_, rfl⟩
  case h_6 _ _ d _ _ =>
    unfold State.pixWrite32
    split
    · exact .inl ⟨_, rfl⟩
    · exact .inr (.inr ⟨d, by omega, rfl⟩)

/-! ### The configuration -/

@[simp] theorem writeReg_cfg (s : State) (d : Word) (n : RegName) : (s.writeReg d n).cfg = s.cfg := by
  cases n with
  | ctrl =>
    show (s.writeCtrl d).cfg = s.cfg
    unfold State.writeCtrl
    split <;> rfl
  | _ => rfl

@[simp] theorem pixTransaction_cfg (s : State) (r : BusRequest) : (s.pixTransaction r).cfg = s.cfg := by
  obtain ⟨a, h⟩ | ⟨d, _, h⟩ | ⟨d, _, h⟩ := pixTransaction_cases s r <;> simp [h]

@[simp] theorem regTransaction_cfg (s : State) (r : BusRequest) : (s.regTransaction r).cfg = s.cfg := by
  obtain h | ⟨a, h⟩ | ⟨d, _, h⟩ | ⟨_, h⟩ | ⟨n, d, _, _, _, _, h⟩ := regTransaction_cases s r <;> simp [h]

@[simp] theorem hostTransaction_cfg (s : State) (r : BusRequest) : (s.hostTransaction r).cfg = s.cfg := by
  unfold State.hostTransaction
  split
  · simp
  · split <;> simp

/-! ### Register transactions of 4 bytes -/

section
variable {off : Word} (h : RegOffset off)
include h

/-- R141, R145. -/
theorem hostTransaction_read (s : State) :
    s.hostTransaction (regRequest off .read) = answered s (.okayRead (regValueAt s off)) :=
  regTransaction_read h.1 h.2

/-- R142. -/
theorem hostTransaction_write_idle {s : State} (hb : s.busy = false) (d : Word) :
    s.hostTransaction (regRequest off (.write d)) = answered (s.idleWrite off d) .okayWrite :=
  regTransaction_write_idle h.1 h.2 hb d

/-- R144. -/
theorem hostTransaction_write_busy {s : State} (hb : s.busy = true) (d : Word) :
    s.hostTransaction (regRequest off (.write d)) = answered (s.busyWrite off d) .okayWrite :=
  regTransaction_write_busy h.1 h.2 hb d

end

theorem regOffset_offset (n : RegName) : RegOffset n.offset := by
  unfold RegOffset
  cases n <;> decide

/-- A read of a named register answers its value (R141). -/
theorem hostTransaction_read_offset (s : State) (n : RegName) :
    s.hostTransaction (regRequest n.offset .read) = answered s (.okayRead (regValue s n)) := by
  rw [hostTransaction_read (regOffset_offset n), regValueAt_offset]

/-- A write of a named register while BUSY = 0 is its effect (R142). -/
theorem hostTransaction_write_offset {s : State} (hb : s.busy = false) (d : Word) (n : RegName) :
    s.hostTransaction (regRequest n.offset (.write d)) = answered (s.writeReg d n) .okayWrite := by
  rw [hostTransaction_write_idle (regOffset_offset n) hb, idleWrite_offset]

theorem regValueAt_reserved (s : State) {off : Word} (h : 0x68 ≤ off.toNat) : regValueAt s off = 0 := by
  rw [regValueAt, regAt_reserved h]

theorem idleWrite_reserved (s : State) {off : Word} (h : 0x68 ≤ off.toNat) (d : Word) : s.idleWrite off d = s := by
  rw [State.idleWrite, regAt_reserved h]

theorem busyWrite_reserved (s : State) {off : Word} (h : 0x68 ≤ off.toNat) (d : Word) :
    s.busyWrite off d = s.raiseWign :=
  busyWrite_other s (fun hoff => by simp [hoff] at h) d

end Sys2Proof.Machine
end

section
/-! SUPPORT. What a hard reset leaves, whatever was running (spec/70_reset_and_hazards.md R310, R312), and what the state
after power-on reads. -/

namespace Sys2Proof.Machine

open Sys2Proof.Safety

/-- A hard reset is the soft reset, the drop of a held transaction and, in the destination region of a running command
alone, free values. -/
theorem hardReset_eq (s : State) :
    ∃ m n, s.hardReset = { s.softReset with held := none, pix := m, draws := n } := by
  unfold State.hardReset
  split
  · exact ⟨s.pix, s.draws, rfl⟩
  · exact ⟨_, _, rfl⟩

@[simp] theorem hardReset_cfg (s : State) : s.hardReset.cfg = s.cfg := by
  obtain ⟨m, n, h⟩ := hardReset_eq s
  simp [h]

@[simp] theorem hardReset_ctrlIrqEn (s : State) : s.hardReset.ctrlIrqEn = false := by
  obtain ⟨m, n, h⟩ := hardReset_eq s
  simp [h]

/-- After power-on no table entry is valid (R60). -/
theorem lutAllValid_powerOn (c : Config) : (State.powerOn c).lutAllValid = false := by
  rw [← Bool.not_eq_true, lutAllValid_iff]
  intro h
  have h0 : (Vector.replicate 256 false)[0] = true := h 0 (by decide)
  simp at h0

/-- R36, R40: every flag and ERR_CODE are 0 after power-on. -/
theorem statusWord_powerOn (c : Config) : (State.powerOn c).statusWord = 0 := by
  rw [State.statusWord, lutAllValid_powerOn]
  simp only [State.powerOn]
  decide

/-- R36, R38: CTRL reads 0 after power-on. -/
theorem ctrlWord_powerOn (c : Config) : (State.powerOn c).ctrlWord = 0 := by
  simp only [State.ctrlWord, State.powerOn]
  decide

end Sys2Proof.Machine
end

section
/-! SUPPORT. The output descriptor OUT_W, OUT_H, OUT_C as one value (spec/10_state.md R46): who writes it, and with what. -/

namespace Sys2Proof.Machine

open Sys2Proof.Safety

/-- What OUT_W, OUT_H, OUT_C hold. -/
def State.output (s : State) : Half × Half × Byte := (s.outW, s.outH, s.outC)

/-- The shape of the buffer a buffer-producing command writes (R211, R226, R253, R257). -/
def outputShape (i : Instr) (s : State) : Half × Half × Byte :=
  (if i ∈ [.lutApply, .gray] then s.srcW else s.dstW, if i ∈ [.lutApply, .gray] then s.srcH else s.dstH,
    if i = .gray then 1 else s.srcC)

theorem output_eq_iff {t : State} {w h : Half} {c : Byte} :
    t.output = (w, h, c) ↔ t.outW = w ∧ t.outH = h ∧ t.outC = c := by
  simp [State.output]

/-- The shape a command reports has the size that its checks used (R168). -/
theorem outputShape_size (s : State) {i : Instr} (hi : writesBuffer i = true) :
    (outputShape i s).1.toNat * (outputShape i s).2.1.toNat * (outputShape i s).2.2.toNat = destinationSize s i := by
  cases i with
  | lutApply | rsNearest | rsBilinear => rfl
  | gray => exact Nat.mul_one _
  | nop | lutNeg | lutLog | lutGamma | addrRaw | addrClamp => cases hi

/-! ### Completions -/

/-- The effect of a buffer-producing command sets the output descriptor; no other effect does. -/
theorem effect_output (i : Instr) (s : State) :
    (effect i s).output = if writesBuffer i then outputShape i s else s.output := by
  cases i <;> rfl

/-- A completion leaves the output descriptor, or is a successful one of a buffer-producing command. -/
theorem completeStep_output {s t : State} (h : completeStep s = .next t) :
    t.output = s.output ∨
      (t.busy = false ∧ t.cmdCount = s.cmdCount + 1 ∧ t.done = true ∧ t.errCode = 0 ∧
        ∃ i, decode s.cmdLast = some i ∧ writesBuffer i = true ∧ t.output = outputShape i s) := by
  obtain ⟨e, rfl, _⟩ | ⟨i, hd, _, rfl⟩ := completeStep_inv h
  · exact .inl rfl
  · have hout : (effect i s).completeOk.output = _ := effect_output i s
    cases hi : writesBuffer i with
    | false => exact .inl (by simpa [hi] using hout)
    | true => exact .inr ⟨rfl, by simp, rfl, rfl, i, hd, hi, by simpa [hi] using hout⟩

/-! ### Host transactions -/

/-- A register write leaves the output descriptor, or is the soft reset of a CTRL write (R39, R142). -/
theorem writeReg_output (s : State) (d : Word) (n : RegName) :
    (s.writeReg d n).output = s.output ∨
      ((s.writeReg d n).output = (0, 0, 0) ∧ n = .ctrl ∧ d.getLsbD 0 = true) := by
  cases n with
  | ctrl =>
    show (s.writeCtrl d).output = s.output ∨ ((s.writeCtrl d).output = (0, 0, 0) ∧ _)
    unfold State.writeCtrl
    split
    · exact .inr ⟨rfl, rfl, by assumption⟩
    · exact .inl rfl
  | _ => exact .inl rfl

theorem pixTransaction_output (s : State) (r : BusRequest) : (s.pixTransaction r).output = s.output := by
  obtain ⟨a, h⟩ | ⟨d, _, h⟩ | ⟨d, _, h⟩ := pixTransaction_cases s r <;> rw [h] <;> rfl

theorem regTransaction_output (s : State) (r : BusRequest) :
    (s.regTransaction r).output = s.output ∨
      ((s.regTransaction r).output = (0, 0, 0) ∧ s.busy = false ∧ r.size = .four ∧ r.offset = 0x08 ∧
        ∃ d, d.getLsbD 0 = true ∧ r.access = .write d) := by
  obtain h | ⟨a, h⟩ | ⟨d, _, h⟩ | ⟨_, h⟩ | ⟨n, d, hb, hsize, hoff, hacc, h⟩ := regTransaction_cases s r
  · exact .inl (by rw [h])
  · exact .inl (by rw [h]; rfl)
  · exact .inl (by rw [h]; rfl)
  · exact .inl (by rw [h]; rfl)
  · rw [h]
    obtain hw | ⟨hw, rfl, hd⟩ := writeReg_output s d n
    · exact .inl hw
    · exact .inr ⟨hw, hb, hsize, hoff, d, hd, hacc⟩

/-- A host transaction leaves the output descriptor, or is the CTRL write that resets an idle block. -/
theorem hostTransaction_output (s : State) (r : BusRequest) :
    (s.hostTransaction r).output = s.output ∨
      ((s.hostTransaction r).output = (0, 0, 0) ∧ s.busy = false ∧
        ∃ d, d.getLsbD 0 = true ∧ r = regRequest 0x08 (.write d)) := by
  obtain ⟨space, off, size, acc⟩ := r
  cases space with
  | reg =>
    obtain h | ⟨h, hb, rfl, rfl, d, hd, rfl⟩ := regTransaction_output s ⟨.reg, off, size, acc⟩
    · exact .inl h
    · exact .inr ⟨h, hb, d, hd, rfl⟩
  | pix =>
    left
    show (if s.busy then s.setHeld _ else s.pixTransaction _).output = s.output
    split
    · rfl
    · exact pixTransaction_output s _

theorem hardReset_output (s : State) : s.hardReset.output = (0, 0, 0) := by
  obtain ⟨m, n, h⟩ := hardReset_eq s
  rw [h]
  rfl

/-! ### The step -/

/-- The three ways of the output descriptor over a step: it stays, a reset clears it, or a completion sets it (R39, R46,
R310, R311). -/
theorem step_output {s t : State} (h : step s = .next t) :
    t.output = s.output ∨
    (t.output = (0, 0, 0) ∧
      ((∃ ts, s.turns = .hardReset :: ts) ∨
        (s.busy = false ∧ s.held = none ∧
          ∃ d ts, d.getLsbD 0 = true ∧ s.turns = .host (regRequest 0x08 (.write d)) :: ts))) ∨
    (s.busy = true ∧ t.busy = false ∧ t.cmdCount = s.cmdCount + 1 ∧ t.done = true ∧ t.errCode = 0 ∧
      ∃ i, decode s.cmdLast = some i ∧ writesBuffer i = true ∧ t.output = outputShape i s) := by
  obtain ⟨ts, hts, rfl⟩ | ⟨ts, hb, hc⟩ | ⟨ts, d, hb, hc⟩ | ⟨r, _, _, rfl⟩ | ⟨r, ts, hheld, hts, rfl⟩ | ⟨ts, d, _, rfl⟩ |
    ⟨ts, _, rfl⟩ := step_cases h
  · exact .inr (.inl ⟨hardReset_output _, .inl ⟨ts, hts⟩⟩)
  · exact (completeStep_output hc).imp_right fun hset => .inr ⟨hb, hset⟩
  · exact (completeStep_output hc).imp_right fun hset => .inr ⟨hb, hset⟩
  · exact .inl (pixTransaction_output _ r)
  · obtain hsame | ⟨hzero, hb, d, hd, rfl⟩ := hostTransaction_output (s.setTurns ts) r
    · exact .inl hsame
    · exact .inr (.inl ⟨hzero, .inr ⟨hb, hheld, d, ts, hd, hts⟩⟩)
  · exact .inl rfl
  · exact .inl rfl

end Sys2Proof.Machine
end

section
/-! SUPPORT. Identification, the table port and the interrupt output: what the registers of R37, R61 and R62 read and
write, and what keeps them (spec/10_state.md). -/

namespace Sys2Proof.Machine

/-! ### Identification (R37) -/

theorem regValueAt_id (s : State) : regValueAt s 0x00 = 0x4D4D4950 := regValueAt_offset s .id

theorem regValueAt_version (s : State) : regValueAt s 0x04 = 0x00000007 := regValueAt_offset s .version

theorem regValueAt_pixSize (s : State) : regValueAt s 0x64 = BitVec.ofNat 32 s.cfg.pixBytes :=
  regValueAt_offset s .pixSize

/-- No step changes the configuration (log entry 1). -/
theorem step_cfg {s t : State} (h : step s = .next t) : t.cfg = s.cfg := by
  obtain ⟨ts, _, rfl⟩ | ⟨ts, _, hc⟩ | ⟨ts, d, _, hc⟩ | ⟨r, _, _, rfl⟩ | ⟨r, ts, _, _, rfl⟩ | ⟨ts, d, _, rfl⟩ |
    ⟨ts, _, rfl⟩ := step_cases h
  · simp
  · rw [completeStep_cfg hc, setTurns_cfg]
  · rw [completeStep_cfg hc, respond_cfg, clearStatus_cfg, setTurns_cfg]
  · simp [State.performHeld]
  · simp
  · rfl
  · rfl

/-! ### The table port (R61, R62) -/

/-- What a one-byte field takes of a written word is bits [7:0] (R35). -/
theorem setWidth_eq_lowByte (d : Word) : d.setWidth 8 = d.extractLsb' 0 8 := by
  ext k hk
  simp

/-- The bits above a one-byte field read 0 (R35). -/
theorem fieldWord_eq_append (v : Byte) : fieldWord v = 0#24 ++ v := BitVec.setWidth_eq_append (by decide)

/-- A LUT_DATA write changes exactly the selected entry. -/
theorem lutAt_writeLutData (s : State) (d : Word) (b : Byte) :
    (s.writeLutData d).lutAt b = if b = s.lutIndex then d.setWidth 8 else s.lutAt b := by
  show (s.lut.set s.lutIndex.toNat (d.setWidth 8))[b.toNat] = _
  rw [Vector.getElem_set]
  exact if_congr (by rw [BitVec.toNat_inj, eq_comm]) rfl rfl

/-- A LUT_DATA write marks exactly the selected entry valid. -/
theorem lutValid_writeLutData (s : State) (d : Word) (k : Nat) (h : k < 256) :
    (s.writeLutData d).lutValid[k] = if k = s.lutIndex.toNat then true else s.lutValid[k] := by
  show (s.lutValid.set s.lutIndex.toNat true)[k] = _
  rw [Vector.getElem_set]
  exact if_congr eq_comm rfl rfl

/-! ### The interrupt output (R43) -/

theorem irq_eq_false_of_disabled {s : State} (h : s.ctrlIrqEn = false) : s.irq = false := by
  rw [State.irq, h, Bool.false_and]

end Sys2Proof.Machine
end

section
/-! The statements about the registers and flags of spec/10_state.md. -/

namespace Sys2Proof.Proofs

open Sys2Proof.Machine Sys2Proof.Safety

/-- Settles O14: the two constants and PIX_SIZE depend on the configuration alone, which every step keeps. -/
theorem identificationNeverChanges : Obligations.IdentificationNeverChanges := by
  refine ⟨fun s => ⟨regValueAt_id s, regValueAt_version s, ?_, fun hmax => ?_⟩, fun s t h => ⟨?_, ?_, ?_⟩⟩
  · rw [regValueAt_pixSize, BitVec.toNat_ofNat]
  · rw [regValueAt_pixSize, hmax]
    rfl
  · rw [regValueAt_id, regValueAt_id]
  · rw [regValueAt_version, regValueAt_version]
  · rw [regValueAt_pixSize, regValueAt_pixSize, step_cfg h]

/-- Settles O22: LUT_INDEX and LUT_DATA are the registers at 0x44 and 0x48, and a LUT_DATA write sets one entry of each of
two vectors. -/
theorem lutDataWriteStoresAndAdvances : Obligations.LutDataWriteStoresAndAdvances := by
  intro s d hb
  have hindex : s.hostTransaction (regRequest 0x44 (.write d)) = _ := hostTransaction_write_offset hb d .lutIndex
  have hread : s.hostTransaction (regRequest 0x48 .read) = _ := hostTransaction_read_offset s .lutData
  have hdata : s.hostTransaction (regRequest 0x48 (.write d)) = _ := hostTransaction_write_offset hb d .lutData
  rw [hindex, hread, hdata, ← setWidth_eq_lowByte, ← fieldWord_eq_append]
  exact ⟨rfl, rfl, rfl, _, rfl, BitVec.toNat_add s.lutIndex 1, lutAt_writeLutData s d, lutValid_writeLutData s d, rfl⟩

/-- Settles O39: `effect_output` for a completion, and for a step its three ways, `step_output`. -/
theorem outputRegistersDescribeTheLastBuffer : Obligations.OutputRegistersDescribeTheLastBuffer := by
  refine ⟨fun i s t h => ?_, fun s t h => ?_⟩
  · obtain ⟨e, _, rfl⟩ | ⟨_, rfl⟩ := exec_cases h
    · exact ⟨fun _ hok => absurd hok (code_ne_zero e), fun _ => ⟨rfl, rfl, rfl⟩⟩
    · have hout : (effect i s).completeOk.output = _ := effect_output i s
      refine ⟨fun hi _ => ?_, fun hor => ?_⟩
      · rw [if_pos hi] at hout
        obtain ⟨hw, hh, hc⟩ := output_eq_iff.mp hout
        refine ⟨?_, hw, hh, hc⟩
        rw [← outputShape_size s hi, ← hout]
        rfl
      · have hi : writesBuffer i = false := hor.resolve_right (fun hne => hne rfl)
        rw [hi] at hout
        exact output_eq_iff.mp hout
  · obtain hsame | ⟨hzero, hreset⟩ | ⟨hb, htb, hcount, hdone, hcode, i, hd, hi, hset⟩ := step_output h
    · exact .inl (output_eq_iff.mp hsame)
    · obtain ⟨hw, hh, hc⟩ := output_eq_iff.mp hzero
      exact .inr (.inl ⟨hw, hh, hc, hreset⟩)
    · exact .inr (.inr ⟨hb, htb, hcount, hdone, hcode, i, hd, hi, output_eq_iff.mp hset⟩)

/-- Settles O10: register by register, and 0 where there is no register. -/
theorem powerOnRegisterValues : Obligations.PowerOnRegisterValues := by
  intro c off _ hdata
  cases hn : regAt off with
  | none =>
    have hoff : ∀ n : RegName, off ≠ n.offset := fun n hoff => by simp [regAt_some.mpr hoff] at hn
    rw [regValueAt, hn, if_neg (show off ≠ 0x00 from hoff .id), if_neg (show off ≠ 0x04 from hoff .version),
      if_neg (show off ≠ 0x40 from hoff .gamma), if_neg (show off ≠ 0x64 from hoff .pixSize)]
  | some n =>
    rw [regAt_some] at hn
    subst hn
    rw [regValueAt_offset]
    cases n with
    | lutData => exact absurd rfl hdata
    | ctrl => exact ctrlWord_powerOn c
    | status => exact statusWord_powerOn c
    | _ => rfl

/-- Settles O18: the shared step is the completion at the state with the flags cleared, `completeStep_flags`. -/
theorem completionSurvivesStatusWriteInTheSameStep : Obligations.CompletionSurvivesStatusWriteInTheSameStep := by
  intro s d ts hb hheld hts
  have hstep := step_statusWriteAtCompletion hheld hb hts
  obtain ⟨t, ht, -⟩ := completeStep_counts (((s.setTurns ts).clearStatus d).respond .okayWrite)
  exact ⟨hstep, t, hstep.trans ht, completeStep_flags ht⟩

/-- Settles O20: no register lies at these offsets. -/
theorem reservedOffsetsReadZeroIgnoreWrites : Obligations.ReservedOffsetsReadZeroIgnoreWrites := by
  intro s off d hoff hres
  refine ⟨?_, fun hb => ?_, fun hb => ?_⟩
  · rw [hostTransaction_read hoff, regValueAt_reserved s hres]
  · rw [hostTransaction_write_idle hoff hb, idleWrite_reserved s hres]
  · rw [hostTransaction_write_busy hoff hb, busyWrite_reserved s hres]
    rfl

/-- Settles O23: every reset clears IRQ_EN. -/
theorem interruptIsALevel : Obligations.InterruptIsALevel := by
  refine ⟨fun s => ?_, fun c => irq_eq_false_of_disabled rfl, fun s => ⟨?_, ?_⟩⟩
  · rw [State.irq, Bool.and_eq_true, Bool.or_eq_true]
  · exact irq_eq_false_of_disabled (softReset_ctrlIrqEn s)
  · exact irq_eq_false_of_disabled (hardReset_ctrlIrqEn s)

end Sys2Proof.Proofs
end

section
/-! SUPPORT. What the checks of a command give its completion: which errors they raise (spec/60_exceptions.md R282), that
the regions are as R168 and R169 want them, and that an addressed byte lies in pixel memory (R191). -/

namespace Sys2Proof.Machine

open Sys2Proof.Safety

/-! ### The errors of the checks -/

theorem whenApplies_some {b : Bool} {r : Option CmdError} {e : CmdError} (h : whenApplies b r = some e) :
    b = true ∧ r = some e := by
  cases b with
  | false => cases h
  | true => exact ⟨rfl, h⟩

theorem checkSourceDims_mayRaise {i : Instr} {s : State} {e : CmdError} (hi : usesSource i = true)
    (h : checkSourceDims s = some e) : mayRaise i e = true := by
  unfold checkSourceDims at h
  split_ifs at h <;> (cases h; revert hi; cases i <;> decide)

theorem checkTargetDims_mayRaise {i : Instr} {s : State} {e : CmdError} (hi : usesTargetDims i = true)
    (h : checkTargetDims s = some e) : mayRaise i e = true := by
  unfold checkTargetDims at h
  split_ifs at h <;> (cases h; revert hi; cases i <;> decide)

theorem checkTable_mayRaise {i : Instr} {s : State} {e : CmdError} (hi : usesTable i = true)
    (h : checkTable s = some e) : mayRaise i e = true := by
  obtain ⟨k, hk, rfl⟩ := Option.map_eq_some_iff.mp h
  obtain ⟨hlt, -⟩ := lowestInvalid_some hk
  cases i with
  | lutApply => exact decide_eq_true hlt
  | _ => cases hi

theorem checkSourceFits_mayRaise {i : Instr} {s : State} {e : CmdError} (hi : usesSource i = true)
    (h : checkSourceFits s = some e) : mayRaise i e = true := by
  unfold checkSourceFits at h
  split_ifs at h
  cases h
  revert hi
  cases i <;> decide

/-- A command with a destination writes a buffer, at DST_BASE and of the size its checks use (R14, R168). -/
theorem destination_some {s : State} {i : Instr} {d : Desc} (h : s.destination i = some d) :
    writesBuffer i = true ∧ d.base = s.dstBase.toNat ∧ d.size = destinationSize s i := by
  cases i with
  | lutApply | rsNearest | rsBilinear => cases h; exact ⟨rfl, rfl, rfl⟩
  | gray => cases h; exact ⟨rfl, rfl, Nat.mul_one _⟩
  | _ => cases h

/-- A buffer-producing command can complete with the errors of V6 and V7 (R282). -/
theorem mayRaise_of_writesBuffer {i : Instr} (hi : writesBuffer i = true) :
    mayRaise i (.regionOverflow .destination) = true ∧ mayRaise i .aliased = true := by
  revert hi
  cases i <;> decide

theorem checkDestinationFits_mayRaise {i : Instr} {s : State} {e : CmdError} (h : checkDestinationFits i s = some e) :
    mayRaise i e = true := by
  unfold checkDestinationFits at h
  split at h
  case h_1 d hd =>
    split_ifs at h
    cases h
    exact (mayRaise_of_writesBuffer (destination_some hd).1).1
  case h_2 => cases h

theorem checkOverlap_mayRaise {i : Instr} {s : State} {e : CmdError} (h : checkOverlap i s = some e) :
    mayRaise i e = true := by
  unfold checkOverlap at h
  split at h
  case h_1 d hd =>
    split_ifs at h
    cases h
    exact (mayRaise_of_writesBuffer (destination_some hd).1).2
  case h_2 => cases h

theorem checkCoordinates_mayRaise {i : Instr} {s : State} {e : CmdError} (h : checkCoordinates i s = some e) :
    mayRaise i e = true := by
  cases i with
  | addrRaw =>
    unfold checkCoordinates checkRawCoordinates at h
    split_ifs at h <;> (cases h; rfl)
  | addrClamp =>
    unfold checkCoordinates checkClampCoordinates at h
    split_ifs at h
    cases h
    rfl
  | _ => cases h

/-- The checks raise only the errors that R282 lists for the command. -/
theorem validate_mayRaise {i : Instr} {s : State} {e : CmdError} (h : validate i s = some e) : mayRaise i e = true := by
  have hmem := firstError_mem h
  simp only [List.mem_cons, List.not_mem_nil, or_false] at hmem
  obtain h | h | h | h | h | h | h := hmem
  · obtain ⟨hi, hc⟩ := whenApplies_some h.symm
    exact checkSourceDims_mayRaise hi hc
  · obtain ⟨hi, hc⟩ := whenApplies_some h.symm
    exact checkTargetDims_mayRaise hi hc
  · obtain ⟨hi, hc⟩ := whenApplies_some h.symm
    exact checkTable_mayRaise hi hc
  · obtain ⟨hi, hc⟩ := whenApplies_some h.symm
    exact checkSourceFits_mayRaise hi hc
  · exact checkDestinationFits_mayRaise h.symm
  · exact checkOverlap_mayRaise h.symm
  · exact checkCoordinates_mayRaise h.symm

/-! ### What passing the checks gives -/

theorem destinationSize_eq_zero (s : State) {i : Instr} (hi : writesBuffer i = false) : destinationSize s i = 0 := by
  cases i with
  | lutApply | gray | rsNearest | rsBilinear => cases hi
  | _ => rfl

/-- A buffer-producing command that passes its checks has legal dimensions and regions (R166 to R169). -/
theorem bufferLegal_of_validate {s : State} {i : Instr} (hi : writesBuffer i = true) (hv : validate i s = none) :
    BufferLegal s i := by
  cases i with
  | lutApply => exact ((validate_lutApply_none s).mp hv).1
  | gray => exact (validate_gray_none s).mp hv
  | rsNearest => exact ((validate_resample_none s (.inl rfl)).mp hv).1
  | rsBilinear => exact ((validate_resample_none s (.inr rfl)).mp hv).1
  | _ => cases hi

/-- When the checks pass, no byte of the source region lies in the destination region (R102, R169). -/
theorem not_inDestination_of_inSource {s : State} {i : Instr} {a : Nat} (hv : validate i s = none)
    (ha : InSource s a) : ¬InDestination s i a := by
  rintro ⟨hlo, hhi⟩
  obtain ⟨hslo, hshi⟩ := ha
  cases hi : writesBuffer i with
  | false =>
    rw [destinationSize_eq_zero s hi] at hhi
    omega
  | true =>
    obtain ⟨-, -, -, hdisjoint⟩ := bufferLegal_of_validate hi hv
    exact hdisjoint ⟨by omega, by omega⟩

/-- The address of an in-range triple lies in its region (R191). -/
theorem addr_lt {d : Desc} {x y ch : Nat} (hx : x < d.w) (hy : y < d.h) (hc : ch < d.c) :
    d.addr x y ch < d.base + d.size := by
  have hlt := offset_lt_size hx hy hc
  unfold Desc.addr Desc.size
  omega

/-- A coordinate clamped to the edges of an axis is in range (R192). -/
theorem clamp_toNat_lt (v : Int) {n : Nat} (hn : 1 ≤ n) : (clamp v 0 (n - 1)).toNat < n := by
  unfold clamp
  split_ifs <;> omega

/-- ADDR.RAW addresses a byte of pixel memory when its checks pass (R191, R194). -/
theorem rawAddress_lt {s : State} (hv : validate .addrRaw s = none) : rawAddress s < s.cfg.pixBytes := by
  obtain ⟨-, hfits, ⟨hx0, hx⟩, ⟨hy0, hy⟩, hc⟩ := (validate_addrRaw_none s).mp hv
  have haddr : rawAddress s < s.srcBase.toNat + sourceSize s :=
    addr_lt (d := s.source) ((Int.toNat_lt hx0).mpr hx) ((Int.toNat_lt hy0).mpr hy) hc
  exact haddr.trans_le hfits

/-- ADDR.CLAMP addresses a byte of pixel memory when its checks pass (R191, R195). -/
theorem clampAddress_lt {s : State} (hv : validate .addrClamp s = none) : clampAddress s < s.cfg.pixBytes := by
  obtain ⟨⟨hw, hh, -⟩, hfits, hc⟩ := (validate_addrClamp_none s).mp hv
  have haddr : clampAddress s < s.srcBase.toNat + sourceSize s :=
    addr_lt (d := s.source) (clamp_toNat_lt _ hw) (clamp_toNat_lt _ hh) hc
  exact haddr.trans_le hfits

end Sys2Proof.Machine
end

section
/-! SUPPORT. Who writes pixel memory besides the host: the effect of a command and a hard reset fill the destination region
of that command, and nothing else does (spec/41_command_control.md R163, spec/70_reset_and_hazards.md R312). -/

namespace Sys2Proof.Machine

open Sys2Proof.Safety

/-- The effect of a command fills its destination region, which is empty for a command that writes no buffer. -/
theorem effect_pix (i : Instr) (s : State) :
    ∃ f, (effect i s).pix = fillRegion s.cfg s.dstBase.toNat f (destinationSize s i) s.pix := by
  cases i with
  | lutApply | rsNearest | rsBilinear => exact ⟨_, rfl⟩
  | gray =>
    have hsize : s.grayDestination.size = destinationSize s .gray := Nat.mul_one _
    exact ⟨_, congrArg (fillRegion s.cfg s.dstBase.toNat _ · s.pix) hsize⟩
  | nop | lutNeg | lutLog | lutGamma | addrRaw | addrClamp => exact ⟨fun _ => 0, rfl⟩

/-- The effect of a command changes no byte outside its destination region. -/
theorem readPix_effect_outside {i : Instr} {s : State} {a : Nat} (ha : ¬InDestination s i a) :
    (effect i s).readPix a = s.readPix a := by
  obtain ⟨f, hf⟩ := effect_pix i s
  rw [State.readPix, effect_cfg, hf, memRead_fillRegion]
  exact if_neg ha

/-- A hard reset leaves pixel memory, or fills the destination region of a running command whose checks pass (R312). -/
theorem hardReset_pix (s : State) :
    s.hardReset.pix = s.pix ∨
      ∃ i f, s.busy = true ∧ decode s.cmdLast = some i ∧ validate i s = none ∧
        s.hardReset.pix = fillRegion s.cfg s.dstBase.toNat f (destinationSize s i) s.pix := by
  unfold State.hardReset
  split
  case h_1 => exact .inl rfl
  case h_2 d hd =>
    unfold State.interruptedDestination at hd
    split_ifs at hd with hb
    split at hd
    case h_1 i hi =>
      split_ifs at hd with hv
      obtain ⟨-, hbase, hsize⟩ := destination_some hd
      exact .inr ⟨i, _, hb, hi, hv, by rw [hbase, hsize]⟩
    case h_2 => cases hd

/-- Filling the destination region of a command whose checks pass keeps the canonical form. -/
theorem fillDestination_wf {s : State} {i : Instr} (hv : validate i s = none) (f : Nat → Byte)
    (hwf : Memory.wf s.cfg s.pix = true) :
    Memory.wf s.cfg (fillRegion s.cfg s.dstBase.toNat f (destinationSize s i) s.pix) = true := by
  cases hi : writesBuffer i with
  | true =>
    obtain ⟨-, -, hfits, -⟩ := bufferLegal_of_validate hi hv
    exact fillRegion_wf _ _ _ _ _ hfits hwf
  | false =>
    rw [destinationSize_eq_zero s hi]
    exact hwf

end Sys2Proof.Machine
end

section
/-! SUPPORT. Every agent keeps the invariant of the machine: completions, host transactions and resets, each once. -/

namespace Sys2Proof.Machine

open Sys2Proof.Safety

/-! ### Completions -/

/-- An error that a completion can report is recorded as R280 and R281 pair codes and information. -/
theorem errorRegistersLegal_of_mayRaise (s : State) {i : Instr} {e : CmdError} (h : mayRaise i e = true) :
    ErrorRegistersLegal (s.completeError e) := by
  unfold ErrorRegistersLegal
  simp only [completeError_errCode, completeError_errInfo]
  cases e with
  | invalidDimension f => cases f <;> decide
  | unknownOperation w => cases i <;> cases h
  | lutNotLoaded k =>
    have hk : k < 256 := by
      cases i with
      | lutApply => exact of_decide_eq_true h
      | _ => cases h
    have hinfo : (BitVec.ofNat 32 k).toNat < 256 := (Nat.mod_le _ _).trans_lt hk
    exact .inr (.inr (.inr (.inl ⟨rfl, hinfo⟩)))
  | regionOverflow r => cases r <;> decide
  | aliased => decide
  | addrRange c => cases c <;> decide

/-- The shape a buffer-producing command reports is that of a legal buffer in pixel memory when its checks pass (R46). -/
theorem outputShape_legal {s : State} {i : Instr} (hi : writesBuffer i = true) (hv : validate i s = none) :
    1 ≤ (outputShape i s).1.toNat ∧ 1 ≤ (outputShape i s).2.1.toNat ∧
      ((outputShape i s).2.2.toNat = 1 ∨ (outputShape i s).2.2.toNat = 3) ∧
      (outputShape i s).1.toNat * (outputShape i s).2.1.toNat * (outputShape i s).2.2.toNat ≤ s.cfg.pixBytes := by
  obtain ⟨⟨hw, hh, hc⟩, -, hfits, -⟩ := bufferLegal_of_validate hi hv
  rw [outputShape_size s hi]
  have hsize : destinationSize s i ≤ s.cfg.pixBytes := (Nat.le_add_left _ _).trans hfits
  cases i with
  | lutApply => exact ⟨hw, hh, hc, hsize⟩
  | gray => exact ⟨hw, hh, .inl rfl, hsize⟩
  | rsNearest =>
    obtain ⟨-, hdw, hdh⟩ := (validate_resample_none s (.inl rfl)).mp hv
    exact ⟨hdw, hdh, hc, hsize⟩
  | rsBilinear =>
    obtain ⟨-, hdw, hdh⟩ := (validate_resample_none s (.inr rfl)).mp hv
    exact ⟨hdw, hdh, hc, hsize⟩
  | _ => cases hi

/-- The effect of a command whose checks pass leaves a legal output descriptor (R46). -/
theorem outputLegal_effect {s : State} {i : Instr} (hv : validate i s = none) (hs : OutputLegal s) :
    OutputLegal (effect i s) := by
  have hout := effect_output i s
  cases hi : writesBuffer i with
  | false =>
    rw [hi] at hout
    obtain ⟨hw, hh, hc⟩ := output_eq_iff.mp hout
    rw [OutputLegal, hw, hh, hc, effect_cfg]
    exact hs
  | true =>
    rw [hi] at hout
    obtain ⟨hw, hh, hc⟩ := output_eq_iff.mp hout
    rw [OutputLegal, hw, hh, hc, effect_cfg]
    exact .inr (outputShape_legal hi hv)

/-- The effect of a command whose checks pass leaves the offset of a byte in PBA_ADDR (R191). -/
theorem effect_pbaAddr_lt {s : State} {i : Instr} (hv : validate i s = none) (hs : s.pbaAddr.toNat < s.cfg.pixBytes) :
    (effect i s).pbaAddr.toNat < s.cfg.pixBytes := by
  cases i with
  | addrRaw => exact (Nat.mod_le _ _).trans_lt (rawAddress_lt hv)
  | addrClamp => exact (Nat.mod_le _ _).trans_lt (clampAddress_lt hv)
  | _ => exact hs

@[simp] theorem effect_held (i : Instr) (s : State) : (effect i s).held = s.held := by cases i <;> rfl

theorem machineInv_completeError {s : State} {e : CmdError} (h : MachineInv s)
    (he : ErrorRegistersLegal (s.completeError e)) : MachineInv (s.completeError e) := by
  obtain ⟨hwf, -, hout, hpba, hheld⟩ := h
  exact ⟨hwf, he, hout, hpba, hheld⟩

theorem machineInv_completeOk {s : State} {i : Instr} (hv : validate i s = none) (h : MachineInv s) :
    MachineInv (effect i s).completeOk := by
  obtain ⟨hwf, -, hout, hpba, hheld⟩ := h
  obtain ⟨f, hf⟩ := effect_pix i s
  refine ⟨?_, .inl ⟨rfl, rfl⟩, outputLegal_effect hv hout, ?_, ?_⟩
  · rw [completeOk_cfg, completeOk_pix, effect_cfg, hf]
    exact fillDestination_wf hv f hwf
  · rw [completeOk_cfg, effect_cfg]
    exact effect_pbaAddr_lt hv hpba
  · rw [completeOk_held, effect_held]
    exact hheld

theorem machineInv_completeStep {s t : State} (h : MachineInv s) (hc : completeStep s = .next t) : MachineInv t := by
  obtain ⟨e, rfl, ⟨hd, rfl⟩ | ⟨i, -, hv⟩⟩ | ⟨i, -, hv, rfl⟩ := completeStep_inv hc
  · exact machineInv_completeError h (.inr (.inr (.inl ⟨rfl, hd⟩)))
  · exact machineInv_completeError h (errorRegistersLegal_of_mayRaise s (validate_mayRaise hv))
  · exact machineInv_completeOk hv h

/-! ### Resets -/

theorem machineInv_hardReset {s : State} (h : MachineInv s) : MachineInv s.hardReset := by
  obtain ⟨hwf, -⟩ := h
  have hpix : Memory.wf s.cfg s.hardReset.pix = true := by
    obtain hp | ⟨i, f, -, -, hv, hp⟩ := hardReset_pix s
    · rw [hp]
      exact hwf
    · rw [hp]
      exact fillDestination_wf hv f hwf
  obtain ⟨m, n, hm⟩ := hardReset_eq s
  rw [hm] at hpix ⊢
  exact ⟨hpix, .inl ⟨rfl, rfl⟩, .inl ⟨rfl, rfl, rfl⟩, Nat.succ_pos _, nofun⟩

theorem machineInv_softReset {s : State} (h : MachineInv s) : MachineInv s.softReset := by
  obtain ⟨hwf, -, -, -, hheld⟩ := h
  exact ⟨hwf, .inl ⟨rfl, rfl⟩, .inl ⟨rfl, rfl, rfl⟩, Nat.succ_pos _, hheld⟩

@[simp] theorem hardReset_held (s : State) : s.hardReset.held = none := by
  obtain ⟨m, n, h⟩ := hardReset_eq s
  simp [h]

/-! ### Host transactions -/

/-- Only the soft reset of a CTRL write touches what the invariant speaks of; no other register write does. -/
theorem machineInv_writeReg {s : State} (h : MachineInv s) (d : Word) (n : RegName) : MachineInv (s.writeReg d n) := by
  cases n with
  | ctrl =>
    show MachineInv (s.writeCtrl d)
    unfold State.writeCtrl
    split
    · exact machineInv_softReset h
    · exact h
  | _ => exact h

theorem machineInv_regTransaction {s : State} (h : MachineInv s) (r : BusRequest) :
    MachineInv (s.regTransaction r) := by
  obtain ht | ⟨a, ht⟩ | ⟨d, -, ht⟩ | ⟨-, ht⟩ | ⟨n, d, -, -, -, -, ht⟩ := regTransaction_cases s r <;> rw [ht]
  · exact h
  · exact h
  · exact h
  · exact h
  · exact machineInv_writeReg h d n

theorem machineInv_pixTransaction {s : State} (h : MachineInv s) (r : BusRequest) :
    MachineInv (s.pixTransaction r) := by
  obtain ⟨hwf, hrest⟩ := h
  obtain ⟨a, ht⟩ | ⟨d, hfits, ht⟩ | ⟨d, hfits, ht⟩ := pixTransaction_cases s r <;> rw [ht]
  · exact ⟨hwf, hrest⟩
  · exact ⟨memWrite_wf _ _ _ _ hfits hwf, hrest⟩
  · exact ⟨fillRegion_wf _ _ _ _ _ hfits hwf, hrest⟩

theorem machineInv_setHeld {s : State} (h : MachineInv s) {q : Option BusRequest} (hq : ∀ r, q = some r → r.space = .pix) :
    MachineInv (s.setHeld q) := by
  obtain ⟨hwf, herr, hout, hpba, -⟩ := h
  exact ⟨hwf, herr, hout, hpba, hq⟩

theorem machineInv_hostTransaction {s : State} (h : MachineInv s) (r : BusRequest) :
    MachineInv (s.hostTransaction r) := by
  unfold State.hostTransaction
  split
  case h_1 => exact machineInv_regTransaction h r
  case h_2 hpix =>
    split
    · exact machineInv_setHeld h (fun q hq => Option.some.inj hq ▸ hpix)
    · exact machineInv_pixTransaction h r

theorem machineInv_performHeld {s : State} (h : MachineInv s) (r : BusRequest) : MachineInv (s.performHeld r) :=
  machineInv_pixTransaction (machineInv_setHeld (q := none) h nofun) r

end Sys2Proof.Machine
end

section
/-! SUPPORT. The pixel transactions in the terms of the statements (spec/40_host_port.md R147 to R152), and
what a write of one byte or of four leaves to be read (spec/20_memory.md R94). -/

namespace Sys2Proof.Machine

open Sys2Proof.Safety

/-! ### Offsets -/

/-- An offset of pixel memory is a 32-bit word (R9, R90). -/
theorem toNat_ofNat_of_lt_pixBytes {c : Config} {n : Nat} (h : n < c.pixBytes) : (BitVec.ofNat 32 n).toNat = n := by
  have hmax : c.lastOffset.toNat < 2 ^ 32 := c.lastOffset.isLt
  unfold Config.pixBytes at h
  exact Nat.mod_eq_of_lt (by omega)

/-! ### Reading after a write -/

theorem readPix_writePix (s : State) (a b : Nat) (v : Byte) :
    (s.writePix a v).readPix b = if b = a then v else s.readPix b := by
  split_ifs with h
  · rw [h, readPix_writePix_same]
  · exact readPix_writePix_other s h v

/-- Byte `k` of a word written at an offset is read `k` above it (R94, R151). -/
theorem readPix_writePix32_at (s : State) (a : Nat) (d : Word) {k : Nat} (hk : k < 4) :
    (s.writePix32 a d).readPix (a + k) = byteOfWord d k := by
  rw [State.readPix, writePix32_cfg, writePix32_pix, memRead_fillRegion, if_pos (by omega), Nat.add_sub_cancel_left]

/-! ### Pixel transactions -/

/-- A pixel transaction that the host issues while BUSY = 1 is held (R147). -/
theorem hostTransaction_pix_busy {s : State} (hb : s.busy = true) {r : BusRequest} (hr : r.space = .pix) :
    s.hostTransaction r = s.setHeld (some r) := by
  simp [State.hostTransaction, hr, hb]

section
variable {s : State} (hb : s.busy = false) {a : Word}
include hb

/-- While BUSY = 0 a pixel transaction is performed at once (R147). -/
theorem hostTransaction_pix_idle (n : AccessSize) (acc : Access) :
    s.hostTransaction (pixRequest a n acc) = s.pixTransaction (pixRequest a n acc) := by
  simp [State.hostTransaction, pixRequest, hb]

/-- R148. -/
theorem hostTransaction_pixRead8 (h : a.toNat + 1 ≤ s.cfg.pixBytes) :
    s.hostTransaction (pixRequest a .one .read) = answered s (.okayRead (0#24 ++ s.readPix a.toNat)) := by
  rw [hostTransaction_pix_idle hb, ← fieldWord_eq_append]
  exact if_neg (not_lt.mpr h)

/-- R149. -/
theorem hostTransaction_pixWrite8 (h : a.toNat + 1 ≤ s.cfg.pixBytes) (d : Word) :
    s.hostTransaction (pixRequest a .one (.write d)) = answered (s.writePix a.toNat (d.setWidth 8)) .okayWrite := by
  rw [hostTransaction_pix_idle hb]
  exact if_neg (not_lt.mpr h)

/-- R150. -/
theorem hostTransaction_pixRead32 (h4 : a.toNat % 4 = 0) (h : a.toNat + 4 ≤ s.cfg.pixBytes) :
    s.hostTransaction (pixRequest a .four .read) = answered s (.okayRead (s.readPix32 a.toNat)) := by
  rw [hostTransaction_pix_idle hb]
  exact if_neg (not_or.mpr ⟨not_not.mpr h4, not_lt.mpr h⟩)

/-- R151. -/
theorem hostTransaction_pixWrite32 (h4 : a.toNat % 4 = 0) (h : a.toNat + 4 ≤ s.cfg.pixBytes) (d : Word) :
    s.hostTransaction (pixRequest a .four (.write d)) = answered (s.writePix32 a.toNat d) .okayWrite := by
  rw [hostTransaction_pix_idle hb]
  exact if_neg (not_or.mpr ⟨not_not.mpr h4, not_lt.mpr h⟩)

/-- R95, R152: no access of pixel memory is 2 bytes wide. -/
theorem hostTransaction_pix_two (acc : Access) : s.hostTransaction (pixRequest a .two acc) = answered s .error := by
  rw [hostTransaction_pix_idle hb]
  cases acc <;> rfl

end

/-- The state `t` is still idle, in the configuration of `s`, and its pixel memory is that of `s` with the byte `v` at the
offset `n`. -/
structure ByteStored (s t : State) (n : Nat) (v : Byte) : Prop where
  idle : t.busy = false
  cfg : t.cfg = s.cfg
  read : ∀ b, t.readPix b = if b = n then v else s.readPix b

/-- What a 1-byte write leaves (R149). -/
theorem byteStored_hostTransaction {s : State} (hb : s.busy = false) {a : Word} {n : Nat} (ha : a.toNat = n)
    (hn : n < s.cfg.pixBytes) (v : Byte) :
    ByteStored s (s.hostTransaction (pixRequest a .one (.write (0#24 ++ v)))) n v := by
  have hbyte : (0#24 ++ v : Word).setWidth 8 = v := BitVec.setWidth_append_eq_right
  subst ha
  rw [hostTransaction_pixWrite8 hb hn, hbyte]
  exact ⟨hb, rfl, fun b => readPix_writePix s a.toNat b v⟩

end Sys2Proof.Machine
end

section
/-! The statements about memory and the agents of spec/20_memory.md. -/

namespace Sys2Proof.Proofs

open Sys2Proof.Machine Sys2Proof.Safety

/-- Settles O9: by the cases of a step, each agent of which keeps the invariant; the turns, the flags and the responses do
not occur in it. -/
theorem everyStepKeepsTheInvariant : Obligations.EveryStepKeepsTheInvariant := by
  intro s t h hstep
  have hturns : ∀ ts, MachineInv (s.setTurns ts) := fun _ => h
  have hstatus : ∀ ts d, MachineInv (((s.setTurns ts).clearStatus d).respond .okayWrite) := fun _ _ => h
  obtain ⟨ts, -, rfl⟩ | ⟨ts, -, hc⟩ | ⟨ts, d, -, hc⟩ | ⟨r, -, -, rfl⟩ | ⟨r, ts, -, -, rfl⟩ | ⟨ts, d, -, rfl⟩ |
    ⟨ts, -, rfl⟩ := step_cases hstep
  · exact machineInv_hardReset (hturns ts)
  · exact machineInv_completeStep (hturns ts) hc
  · exact machineInv_completeStep (hstatus ts d) hc
  · exact machineInv_performHeld h r
  · exact machineInv_hostTransaction (hturns ts) r
  · exact hstatus ts d
  · exact hturns ts

/-- Settles O28: byte `k` of a written word stands `k` above its offset, four byte writes leave each other's bytes alone,
and 2 bytes are no access width. -/
theorem mixedWidthAccessesAreLittleEndian : Obligations.MixedWidthAccessesAreLittleEndian := by
  intro s a v hb h4 hend
  have hoff : ∀ k, k < 4 → (BitVec.ofNat 32 (a.toNat + k)).toNat = a.toNat + k := fun k hk =>
    toNat_ofNat_of_lt_pixBytes (c := s.cfg) (by omega)
  refine ⟨fun k hk => ?_, fun v0 v1 v2 v3 => ?_, fun acc => hostTransaction_pix_two hb acc⟩
  · intro t
    have ht : t = answered (s.writePix32 a.toNat v) .okayWrite := hostTransaction_pixWrite32 hb h4 hend v
    have hcfg : t.cfg = s.cfg := by rw [ht]; rfl
    have hbyte : t.readPix (a.toNat + k) = v.extractLsb' (8 * k) 8 := by
      rw [ht]
      exact readPix_writePix32_at s a.toNat v hk
    rw [hostTransaction_pixRead8 (by rw [ht]; exact hb) (by rw [hcfg, hoff k hk]; omega), hoff k hk, hbyte]
    rfl
  · intro t0 t1 t2 t3
    have h0 : ByteStored s t0 a.toNat v0 := byteStored_hostTransaction hb rfl (by omega) v0
    have h1 : ByteStored t0 t1 (a.toNat + 1) v1 :=
      byteStored_hostTransaction h0.idle (hoff 1 (by decide)) (by rw [h0.cfg]; omega) v1
    have h2 : ByteStored t1 t2 (a.toNat + 2) v2 :=
      byteStored_hostTransaction h1.idle (hoff 2 (by decide)) (by rw [h1.cfg, h0.cfg]; omega) v2
    have h3 : ByteStored t2 t3 (a.toNat + 3) v3 :=
      byteStored_hostTransaction h2.idle (hoff 3 (by decide)) (by rw [h2.cfg, h1.cfg, h0.cfg]; omega) v3
    have hword : t3.readPix32 a.toNat = v3 ++ v2 ++ v1 ++ v0 := by
      simp [State.readPix32, h3.read, h2.read, h1.read, h0.read]
    rw [hostTransaction_pixRead32 h3.idle h4 (by rw [h3.cfg, h2.cfg, h1.cfg, h0.cfg]; exact hend), hword]
    rfl

/-- Settles O33: a completion with an error changes no byte, and a completion without one fills the destination region,
which the checks keep apart from the source region. -/
theorem commandsWriteOnlyTheirDestination : Obligations.CommandsWriteOnlyTheirDestination := by
  intro i s t h
  obtain ⟨e, -, rfl⟩ | ⟨hv, rfl⟩ := exec_cases h
  · exact ⟨fun _ _ => rfl, fun _ _ => rfl⟩
  · have hout : ∀ a, ¬InDestination s i a → (effect i s).completeOk.readPix a = s.readPix a := fun a ha =>
      readPix_effect_outside ha
    exact ⟨hout, fun a ha => hout a (not_inDestination_of_inSource hv ha)⟩

/-- Settles O25: the turns of the host, of the engine and of a hard reset, one rule of the step each. -/
theorem pixelTransactionsAreHeldWhileBusy : Obligations.PixelTransactionsAreHeldWhileBusy := by
  intro s r ts
  refine ⟨fun hheld hts => step_host hheld hts, fun hb hheld hpix hts => ?_, fun q hb hheld hts => ?_,
    fun hb hheld hn => step_held_idle hheld hb hn, fun _ hts => ⟨_, step_hardReset hts, hardReset_held _⟩⟩
  · rw [step_host hheld hts, hostTransaction_pix_busy (s := s.setTurns ts) hb hpix]
    rfl
  · exact step_held_waits hheld hb hts nofun nofun

end Sys2Proof.Proofs
end

section
/-! SUPPORT. The decoder as the inverse of the encoder, and the fields of a word that is no command (spec/30_encoding.md
R120, R123 to R125). -/

namespace Sys2Proof

/-! ### Decoding (R123, R124) -/

theorem decode_encode (i : Instr) : decode (encode i) = some i := by
  cases i <;> rfl

/-- The whole word selects the command (R123): a row found by the search carries the encoding of its command. -/
theorem decode_eq_some_iff {w : Word} {i : Instr} : decode w = some i ↔ w = encode i := by
  constructor
  · intro h
    have hrows : ∀ row ∈ opcodeRows, row.1 = encode row.2 := by decide
    exact hrows (w, i) (lookupRow_mem h)
  · rintro rfl
    exact decode_encode i

/-! ### The fields of a word (R120) -/

theorem fieldsInRange (i : Instr) : Laws.FieldsInRange.Statement i := by
  cases i with
  | nop => exact Laws.FieldsInRange.nop
  | lutNeg => exact Laws.FieldsInRange.lutNeg
  | lutLog => exact Laws.FieldsInRange.lutLog
  | lutGamma => exact Laws.FieldsInRange.lutGamma
  | lutApply => exact Laws.FieldsInRange.lutApply
  | gray => exact Laws.FieldsInRange.gray
  | rsNearest => exact Laws.FieldsInRange.rsNearest
  | rsBilinear => exact Laws.FieldsInRange.rsBilinear
  | addrRaw => exact Laws.FieldsInRange.addrRaw
  | addrClamp => exact Laws.FieldsInRange.addrClamp

/-- A word is laid out from its fields RSV, FN and OP. -/
theorem append_fields (w : Word) : w.extractLsb' 8 24 ++ w.extractLsb' 4 4 ++ w.extractLsb' 0 4 = w := by
  have hhigh : w.extractLsb' 8 24 ++ w.extractLsb' 4 4 = w.extractLsb' 4 28 :=
    BitVec.extractLsb'_append_extractLsb'_eq_extractLsb' rfl
  rw [hhigh]
  exact BitVec.extractLsb'_append_extractLsb'

theorem eq_encode_iff {w : Word} {i : Instr} :
    w = encode i ↔ w.extractLsb' 8 24 = 0 ∧ w.extractLsb' 4 4 = i.fn ∧ w.extractLsb' 0 4 = i.op := by
  constructor
  · rintro rfl
    obtain ⟨hrsv, hop, hfn, -⟩ := fieldsInRange i
    exact ⟨hrsv, hfn, hop⟩
  · rintro ⟨hrsv, hfn, hop⟩
    rw [← append_fields w, hrsv, hfn, hop]
    rfl

/-! ### Reserved words (R125) -/

theorem decode_eq_none_iff {w : Word} :
    decode w = none ↔
      w.extractLsb' 8 24 ≠ 0 ∨ ∀ i : Instr, ¬(w.extractLsb' 4 4 = i.fn ∧ w.extractLsb' 0 4 = i.op) := by
  rw [Option.eq_none_iff_forall_ne_some, ← forall_or_left]
  refine forall_congr' fun i => ?_
  rw [ne_eq, decode_eq_some_iff, eq_encode_iff, not_and_or]

/-- The pairs of OP and FN that no command has are those R125 lists. -/
theorem forall_fields_ne_iff (op fn : BitVec 4) :
    (∀ i : Instr, ¬(fn = i.fn ∧ op = i.op)) ↔
      (op = 0 ∧ fn ≠ 0) ∨ (op = 1 ∧ 3 ≤ fn.toNat) ∨ ((op = 2 ∨ op = 3) ∧ fn ≠ 0) ∨
        ((op = 4 ∨ op = 5) ∧ 2 ≤ fn.toNat) ∨ 6 ≤ op.toNat := by
  constructor
  · intro h
    have hnop : ¬(fn = 0 ∧ op = 0) := h .nop
    have hneg : ¬(fn = 0 ∧ op = 1) := h .lutNeg
    have hlog : ¬(fn = 1 ∧ op = 1) := h .lutLog
    have hgamma : ¬(fn = 2 ∧ op = 1) := h .lutGamma
    have happly : ¬(fn = 0 ∧ op = 2) := h .lutApply
    have hgray : ¬(fn = 0 ∧ op = 3) := h .gray
    have hnearest : ¬(fn = 0 ∧ op = 4) := h .rsNearest
    have hbilinear : ¬(fn = 1 ∧ op = 4) := h .rsBilinear
    have hraw : ¬(fn = 0 ∧ op = 5) := h .addrRaw
    have hclamp : ¬(fn = 1 ∧ op = 5) := h .addrClamp
    bv_omega
  · rintro hlisted i ⟨rfl, rfl⟩
    revert hlisted
    cases i <;> decide

namespace Machine

open Sys2Proof.Safety

/-- V1: a word that is no command completes with UNKNOWN_OPERATION and the word (R124, R165). -/
theorem completeStep_of_unknown {s : State} (h : decode s.cmdLast = none) :
    completeStep s = .next (failed s 0x02 s.cmdLast) := by
  obtain ⟨i, hi, -⟩ | ⟨-, hc⟩ := completeStep_cases s
  · rw [h] at hi
    cases hi
  · exact hc

end Machine

end Sys2Proof
end

section
/-! The statements about the encoding of spec/30_encoding.md. -/

namespace Sys2Proof.Proofs

open Sys2Proof.Machine

/-- Settles O3: `decode_eq_some_iff` for each of the ten commands, whose encodings are the words of R123. -/
theorem wholeWordSelectsTheCommand : Obligations.WholeWordSelectsTheCommand := fun _ =>
  ⟨decode_eq_some_iff, decode_eq_some_iff, decode_eq_some_iff, decode_eq_some_iff, decode_eq_some_iff,
    decode_eq_some_iff, decode_eq_some_iff, decode_eq_some_iff, decode_eq_some_iff, decode_eq_some_iff⟩

/-- Settles O4: a word is no command when RSV is not 0 or no command has its OP and FN, and the completion of such a word
is the error of V1. -/
theorem reservedWordsCompleteWithUnknownOperation : Obligations.ReservedWordsCompleteWithUnknownOperation := by
  intro w
  constructor
  · rw [decode_eq_none_iff, forall_fields_ne_iff]
  · rintro s rfl hd
    exact completeStep_of_unknown hd

/-- Settles O1: each of the six words is the encoding of its command, by computation. -/
theorem tableWordsDecode : Obligations.TableWordsDecode :=
  ⟨decode_encode .nop, decode_encode .lutGamma, decode_encode .lutApply, decode_encode .gray,
    decode_encode .rsBilinear, decode_encode .addrClamp⟩

/-- Settles O2: the encoding of each command is its row of the table, `decode_encode`. -/
theorem decodeOfEncodeIsTheCommand : Obligations.DecodeOfEncodeIsTheCommand := fun i _ => decode_encode i

end Sys2Proof.Proofs
end

section
/-! SUPPORT. Which transactions are answered ERROR, in the terms of the model's well-formedness checks (spec/40_host_port.md
R146, R152), and what a register write leaves of the fields it stores (R35, R142). -/

namespace Sys2Proof.Machine

open Sys2Proof.Safety

/-! ### The fields of a register (R35) -/

/-- What a two-byte field takes of a written word is bits [15:0]. -/
theorem setWidth_eq_lowHalf (d : Word) : d.setWidth 16 = d.extractLsb' 0 16 := by
  ext k hk
  simp

/-- The bits above a two-byte field read 0. -/
theorem fieldWord_half_eq_append (v : Half) : fieldWord v = 0#16 ++ v := BitVec.setWidth_eq_append (by decide)

/-! ### Register writes (R39, R142) -/

/-- A CTRL write without SRST stores IRQ_EN. -/
theorem writeCtrl_store (s : State) {d : Word} (h : d.getLsbD 0 = false) :
    s.writeCtrl d = { s with ctrlIrqEn := d.getLsbD 1 } :=
  if_neg (Bool.eq_false_iff.mp h)

/-- A CTRL write with SRST is the soft reset, which overrides IRQ_EN. -/
theorem writeCtrl_reset (s : State) {d : Word} (h : d.getLsbD 0 = true) : s.writeCtrl d = s.softReset :=
  if_pos h

/-- The registers that only the block itself writes (R36). -/
def RegName.readOnly : List RegName :=
  [.id, .version, .errInfo, .outW, .outH, .outC, .pbaAddr, .pbaData, .cmdCount, .pixSize]

theorem writeReg_readOnly (s : State) (d : Word) {n : RegName} (h : n ∈ RegName.readOnly) : s.writeReg d n = s := by
  cases n with
  | id | version | errInfo | outW | outH | outC | pbaAddr | pbaData | cmdCount | pixSize => rfl
  | _ => exact absurd h (by decide)

/-! ### A register write itself answers nothing -/

@[simp] theorem writeReg_responses (s : State) (d : Word) (n : RegName) : (s.writeReg d n).responses = s.responses := by
  cases n with
  | ctrl =>
    show (s.writeCtrl d).responses = s.responses
    unfold State.writeCtrl
    split <;> rfl
  | _ => rfl

@[simp] theorem idleWrite_responses (s : State) (off d : Word) : (s.idleWrite off d).responses = s.responses := by
  unfold State.idleWrite
  split
  · exact writeReg_responses s d _
  · rfl

@[simp] theorem busyWrite_responses (s : State) (off d : Word) : (s.busyWrite off d).responses = s.responses := by
  unfold State.busyWrite
  split <;> rfl

/-! ### Well-formed transactions -/

theorem pixWellFormed_iff {c : Config} {r : BusRequest} :
    r.pixWellFormed c = true ↔
      (r.size = .one ∨ (r.size = .four ∧ r.offset.toNat % 4 = 0)) ∧ r.offset.toNat + r.size.bytes ≤ c.pixBytes := by
  simp [BusRequest.pixWellFormed]

theorem pixWellFormed_eq_false_iff {c : Config} {r : BusRequest} :
    r.pixWellFormed c = false ↔
      r.size = .two ∨ (r.size = .four ∧ r.offset.toNat % 4 ≠ 0) ∨ r.offset.toNat + r.size.bytes > c.pixBytes := by
  rw [← Bool.not_eq_true, pixWellFormed_iff]
  cases r.size with
  | one => simp
  | two => simp
  | four => simp [imp_iff_not_or]

theorem regWellFormed_eq_false_iff {r : BusRequest} :
    r.regWellFormed = false ↔ r.size ≠ .four ∨ r.offset.toNat % 4 ≠ 0 := by
  simp [BusRequest.regWellFormed, imp_iff_not_or]

/-- Of the transactions whose offset the block decodes, those it does not define are the ones R146 lists. -/
theorem wellFormed_eq_false_iff {c : Config} {r : BusRequest} (hreg : r.space = .reg → r.offset.toNat < 256) :
    r.wellFormed c = false ↔
      (r.space = .reg ∧ (r.size ≠ .four ∨ r.offset.toNat % 4 ≠ 0)) ∨
      (r.space = .pix ∧
        (r.size = .two ∨ (r.size = .four ∧ r.offset.toNat % 4 ≠ 0) ∨
          r.offset.toNat + r.size.bytes > c.pixBytes)) := by
  rw [← regWellFormed_eq_false_iff, ← pixWellFormed_eq_false_iff]
  unfold BusRequest.wellFormed
  cases hspace : r.space with
  | reg => simp [BusRequest.inRegWindow, hreg hspace]
  | pix => simp

/-! ### The answer to a transaction (R146) -/

/-- The state `t` has one response more than `s`, and it is not ERROR. -/
def AnsweredOkay (s t : State) : Prop := ∃ a, a ≠ .error ∧ t.responses = s.responses ++ [a]

theorem answeredOkay_answered {s u : State} {a : BusResponse} (hu : u.responses = s.responses) (ha : a ≠ .error) :
    AnsweredOkay s (answered u a) :=
  ⟨a, ha, congrArg (· ++ [a]) hu⟩

theorem AnsweredOkay.responses_ne {s t : State} (h : AnsweredOkay s t) : t.responses ≠ s.responses ++ [.error] := by
  obtain ⟨a, ha, ht⟩ := h
  simpa [ht] using ha

section
variable {s : State} (hb : s.busy = false)
include hb

theorem hostTransaction_pix_error {a : Word} {n : AccessSize} {acc : Access}
    (h : (pixRequest a n acc).pixWellFormed s.cfg = false) :
    s.hostTransaction (pixRequest a n acc) = answered s .error := by
  rw [hostTransaction_pix_idle hb]
  rw [pixWellFormed_eq_false_iff] at h
  cases n with
  | one =>
    have hend : a.toNat + 1 > s.cfg.pixBytes := by simpa [pixRequest, AccessSize.bytes] using h
    cases acc <;> exact if_pos hend
  | two => cases acc <;> rfl
  | four =>
    have hbad : a.toNat % 4 ≠ 0 ∨ a.toNat + 4 > s.cfg.pixBytes := by simpa [pixRequest, AccessSize.bytes] using h
    cases acc <;> exact if_pos hbad

theorem hostTransaction_pix_okay {a : Word} {n : AccessSize} {acc : Access}
    (h : (pixRequest a n acc).pixWellFormed s.cfg = true) :
    AnsweredOkay s (s.hostTransaction (pixRequest a n acc)) := by
  cases n with
  | one =>
    have hend : a.toNat + 1 ≤ s.cfg.pixBytes := by
      simpa [pixRequest, AccessSize.bytes] using pixWellFormed_iff.mp h
    cases acc with
    | read => exact hostTransaction_pixRead8 hb hend ▸ answeredOkay_answered rfl nofun
    | write d => exact hostTransaction_pixWrite8 hb hend d ▸ answeredOkay_answered rfl nofun
  | two => cases h
  | four =>
    obtain ⟨h4, hend⟩ : a.toNat % 4 = 0 ∧ a.toNat + 4 ≤ s.cfg.pixBytes := by
      simpa [pixRequest, AccessSize.bytes] using pixWellFormed_iff.mp h
    cases acc with
    | read => exact hostTransaction_pixRead32 hb h4 hend ▸ answeredOkay_answered rfl nofun
    | write d => exact hostTransaction_pixWrite32 hb h4 hend d ▸ answeredOkay_answered rfl nofun

end

theorem hostTransaction_reg_okay (s : State) {off : Word} (h : RegOffset off) (acc : Access) :
    AnsweredOkay s (s.hostTransaction (regRequest off acc)) := by
  cases acc with
  | read => exact hostTransaction_read h s ▸ answeredOkay_answered rfl nofun
  | write d =>
    cases hb : s.busy with
    | true => exact hostTransaction_write_busy h hb d ▸ answeredOkay_answered (busyWrite_responses s off d) nofun
    | false => exact hostTransaction_write_idle h hb d ▸ answeredOkay_answered (idleWrite_responses s off d) nofun

/-- A register transaction of a wrong size or alignment is answered ERROR, busy or not (R152). -/
theorem hostTransaction_reg_error (s : State) {off : Word} {n : AccessSize} (acc : Access) (h256 : off.toNat < 256)
    (h : n ≠ .four ∨ off.toNat % 4 ≠ 0) :
    s.hostTransaction { space := .reg, offset := off, size := n, access := acc } = answered s .error :=
  regTransaction_error h256 h

section
variable {s : State} {r : BusRequest} (hpix : r.space = .pix → s.busy = false)
include hpix

theorem hostTransaction_of_illFormed (hreg : r.space = .reg → r.offset.toNat < 256) (h : r.wellFormed s.cfg = false) :
    s.hostTransaction r = answered s .error := by
  obtain ⟨space, off, size, acc⟩ := r
  cases space with
  | reg =>
    obtain ⟨-, hbad⟩ | ⟨hspace, -⟩ := (wellFormed_eq_false_iff hreg).mp h
    · exact hostTransaction_reg_error s acc (hreg rfl) hbad
    · cases hspace
  | pix => exact hostTransaction_pix_error (hpix rfl) h

theorem hostTransaction_of_wellFormed (h : r.wellFormed s.cfg = true) : AnsweredOkay s (s.hostTransaction r) := by
  obtain ⟨space, off, size, acc⟩ := r
  cases space with
  | reg =>
    obtain ⟨h256, rfl, h4⟩ : off.toNat < 256 ∧ size = .four ∧ off.toNat % 4 = 0 := by
      simpa [BusRequest.wellFormed, BusRequest.inRegWindow, BusRequest.regWellFormed] using h
    exact hostTransaction_reg_okay s ⟨h256, h4⟩ acc
  | pix => exact hostTransaction_pix_okay (hpix rfl) h

end

/-! ### Reading after a word write (R151) -/

/-- A word write leaves the bytes before and after its four alone. -/
theorem readPix_writePix32_outside (s : State) {a b : Nat} (h : ¬(a ≤ b ∧ b < a + 4)) (d : Word) :
    (s.writePix32 a d).readPix b = s.readPix b := by
  rw [State.readPix, writePix32_cfg, writePix32_pix, memRead_fillRegion, if_neg h]
  rfl

end Sys2Proof.Machine
end

section
/-! The statements about the host's transactions of spec/40_host_port.md. -/

namespace Sys2Proof.Proofs

open Sys2Proof.Machine Sys2Proof.Safety

/-- Settles O24: an ill-formed transaction is answered ERROR with no other effect, and the answer to a well-formed one is
not ERROR. -/
theorem busErrorExactlyOnIllFormedTransactions : Obligations.BusErrorExactlyOnIllFormedTransactions := by
  intro s r hreg hpix
  rw [← wellFormed_eq_false_iff hreg]
  cases hw : r.wellFormed s.cfg with
  | false =>
    have ht := hostTransaction_of_illFormed hpix hreg hw
    exact ⟨⟨fun _ => rfl, fun _ => congrArg State.responses ht⟩, fun _ => ht⟩
  | true =>
    have hne := (hostTransaction_of_wellFormed hpix hw).responses_ne
    exact ⟨⟨fun h => absurd h hne, nofun⟩, fun h => absurd h hne⟩

/-- Settles O27: a write stores its one or four bytes and leaves the others alone, and an ill-formed access is an error. -/
theorem pixelWritesStoreTheirBytesOnly : Obligations.PixelWritesStoreTheirBytesOnly := by
  intro s a d hb
  refine ⟨fun hend => ⟨_, hostTransaction_pixWrite8 hb hend d, fun b => ?_, rfl⟩,
    fun hend => hostTransaction_pix_error hb (pixWellFormed_eq_false_iff.mpr (.inr (.inr hend))),
    fun h4 hend => ⟨_, hostTransaction_pixWrite32 hb h4 hend d, ?_, ?_, ?_, ?_, fun b hout => ?_, rfl⟩,
    fun hbad => hostTransaction_pix_error hb (pixWellFormed_eq_false_iff.mpr (.inr (hbad.imp_left (⟨rfl, ·⟩))))⟩
  · rw [← setWidth_eq_lowByte]
    exact readPix_writePix s a.toNat b _
  · exact readPix_writePix32_at s a.toNat d (k := 0) (by decide)
  · exact readPix_writePix32_at s a.toNat d (k := 1) (by decide)
  · exact readPix_writePix32_at s a.toNat d (k := 2) (by decide)
  · exact readPix_writePix32_at s a.toNat d (k := 3) (by decide)
  · exact readPix_writePix32_outside s hout d

/-- Settles O15: the value of each register at its offset. -/
theorem registerMapReads : Obligations.RegisterMapReads := by
  intro s
  have hread := regValueAt_offset s
  simp only [← fieldWord_half_eq_append, ← fieldWord_eq_append]
  exact ⟨hread .id, hread .version, hread .pixSize, hread .ctrl, hread .status, lutAllValid_iff s, hread .cmd,
    hread .errInfo, hread .srcBase, hread .srcW, hread .srcH, hread .srcC, hread .dstBase, hread .dstW, hread .dstH,
    hread .outW, hread .outH, hread .outC, hread .gamma, hread .lutIndex, hread .lutData, hread .pbaX, hread .pbaY,
    hread .pbaCh, hread .pbaAddr, hread .pbaData, hread .cmdCount⟩

/-- Settles O16: the rule of a register read does not ask for BUSY. -/
theorem registerReadsHaveNoEffect : Obligations.RegisterReadsHaveNoEffect := fun s _ hoff => hostTransaction_read hoff s

/-- Settles O17: the effect of a write on each register at its offset, and none where there is no register. -/
theorem registerWriteEffects : Obligations.RegisterWriteEffects := by
  intro s d
  refine ⟨fun off n h256 hbad => hostTransaction_reg_error s _ h256 hbad,
    fun hb off hoff => hostTransaction_write_busy hoff hb d, fun hb => ?_⟩
  have hwrite := hostTransaction_write_offset hb d
  rw [← setWidth_eq_lowHalf, ← setWidth_eq_lowByte]
  refine ⟨fun hstore => ?_, fun hreset => ?_, hwrite .status, hwrite .cmd, hwrite .srcBase, hwrite .srcW, hwrite .srcH,
    hwrite .srcC, hwrite .dstBase, hwrite .dstW, hwrite .dstH, hwrite .gamma, hwrite .lutIndex, hwrite .lutData,
    hwrite .pbaX, hwrite .pbaY, hwrite .pbaCh, fun off hmem => ?_, fun off hoff hres => ?_⟩
  · rw [← writeCtrl_store s hstore]
    exact hwrite .ctrl
  · rw [← writeCtrl_reset s hreset]
    exact hwrite .ctrl
  · obtain ⟨n, hn, rfl⟩ : ∃ n ∈ RegName.readOnly, n.offset = off := List.mem_map.mp hmem
    rw [hwrite n, writeReg_readOnly s d hn]
  · rw [hostTransaction_write_idle hoff hb, idleWrite_reserved s hres]

/-- Settles O19: while BUSY = 1 a write of another offset than that of STATUS raises WIGN, and one of STATUS clears flags. -/
theorem writesWhileBusyAreIgnored : Obligations.WritesWhileBusyAreIgnored := by
  intro s off d hb hoff
  rw [hostTransaction_write_busy hoff hb]
  refine ⟨fun hother => ?_, fun hstatus => ?_⟩
  · rw [busyWrite_other s hother]
    rfl
  · rw [hstatus, busyWrite_status]
    rfl

/-- Settles O26: the two read rules, and the errors of ill-formed accesses. -/
theorem pixelReadsReturnMemory : Obligations.PixelReadsReturnMemory := fun _ _ hb =>
  ⟨hostTransaction_pixRead8 hb,
    fun hend => hostTransaction_pix_error hb (pixWellFormed_eq_false_iff.mpr (.inr (.inr hend))),
    hostTransaction_pixRead32 hb,
    fun hbad => hostTransaction_pix_error hb (pixWellFormed_eq_false_iff.mpr (.inr (hbad.imp_left (⟨rfl, ·⟩))))⟩

end Sys2Proof.Proofs
end

section
/-! SUPPORT. The checks V2 to V7 one by one: with which error each fails, and what `validate` answers when it is the first
that does (spec/41_command_control.md R164, R166 to R169, R171). -/

namespace Sys2Proof.Machine

open Sys2Proof.Safety

variable {i : Instr} {s : State} {e : CmdError}

/-! ### Which checks apply (R164) -/

theorem usesSource_iff_mem :
    usesSource i = true ↔ i ∈ [.lutApply, .gray, .rsNearest, .rsBilinear, .addrRaw, .addrClamp] := by
  cases i <;> decide

theorem usesTargetDims_iff_mem : usesTargetDims i = true ↔ i ∈ [.rsNearest, .rsBilinear] := by
  cases i <;> decide

theorem usesSource_of_writesBuffer (hi : writesBuffer i = true) : usesSource i = true := by
  revert hi
  cases i <;> decide

/-- The dimensions are legal for a command when each of V2, V3 and V4 that applies to it passes. -/
theorem dimensionsLegal_iff :
    DimensionsLegal s i ↔ (usesSource i = true → SourceLegal s) ∧ (usesTargetDims i = true → TargetLegal s) ∧
      (usesTable i = true → TableLoaded s) := by
  cases i <;> simp [DimensionsLegal, usesSource, usesTargetDims, usesTable]

/-! ### The failing check -/

theorem toNat_eq_zero_iff {n : Nat} (v : BitVec n) : v.toNat = 0 ↔ v = 0 := by
  rw [← not_iff_not, ← toNat_pos_iff, Nat.one_le_iff_ne_zero]

/-- V2 fails on the first of width, height and channels that is illegal (R166). -/
theorem checkSourceDims_srcW (hw : s.srcW.toNat = 0) : checkSourceDims s = some (.invalidDimension .srcW) :=
  if_pos ((toNat_eq_zero_iff _).mp hw)

theorem checkSourceDims_srcH (hw : s.srcW.toNat ≠ 0) (hh : s.srcH.toNat = 0) :
    checkSourceDims s = some (.invalidDimension .srcH) := by
  rw [ne_eq, toNat_eq_zero_iff] at hw
  rw [checkSourceDims, if_neg hw, if_pos ((toNat_eq_zero_iff _).mp hh)]

theorem checkSourceDims_srcC (hw : s.srcW.toNat ≠ 0) (hh : s.srcH.toNat ≠ 0) (h1 : s.srcC.toNat ≠ 1)
    (h3 : s.srcC.toNat ≠ 3) : checkSourceDims s = some (.invalidDimension .srcC) := by
  rw [ne_eq, toNat_eq_zero_iff] at hw hh
  have hc : s.srcC ≠ 1 ∧ s.srcC ≠ 3 := not_not.mp (mt (channels_iff s.srcC).mpr (not_or.mpr ⟨h1, h3⟩))
  rw [checkSourceDims, if_neg hw, if_neg hh, if_pos hc]

/-- V3 fails on the first of the target width and height that is 0 (R167). -/
theorem checkTargetDims_dstW (hw : s.dstW.toNat = 0) : checkTargetDims s = some (.invalidDimension .dstW) :=
  if_pos ((toNat_eq_zero_iff _).mp hw)

theorem checkTargetDims_dstH (hw : s.dstW.toNat ≠ 0) (hh : s.dstH.toNat = 0) :
    checkTargetDims s = some (.invalidDimension .dstH) := by
  rw [ne_eq, toNat_eq_zero_iff] at hw
  rw [checkTargetDims, if_neg hw, if_pos ((toNat_eq_zero_iff _).mp hh)]

/-- V4 fails on the lowest index whose valid bit is 0 (R171): the search stops at no other one. -/
theorem checkTable_lowest {k : Nat} (hk : k < 256) (hinvalid : s.lutValid[k] = false)
    (hbelow : ∀ j, (hj : j < k) → s.lutValid[j] = true) : checkTable s = some (.lutNotLoaded k) := by
  have hlowest : s.lowestInvalid = some k := by
    rw [State.lowestInvalid, List.findIdx?_eq_some_iff_getElem]
    exact ⟨by simpa using hk, by simpa using hinvalid, fun j hj => by simpa using hbelow j hj⟩
  rw [checkTable, hlowest, Option.map_some]

/-- V5 has one error (R168). -/
theorem checkSourceFits_of_not (h : ¬SourceFits s) : checkSourceFits s = some (.regionOverflow .source) := by
  rw [← checkSourceFits_none] at h
  unfold checkSourceFits at h ⊢
  split_ifs at h ⊢
  · exact absurd rfl h
  · rfl

/-- V6 has one error (R168). -/
theorem checkDestinationFits_of_not (hi : writesBuffer i = true) (h : ¬DestinationFits s (destinationSize s i)) :
    checkDestinationFits i s = some (.regionOverflow .destination) := by
  rw [← (checkRegions_none hi).1] at h
  unfold checkDestinationFits at h ⊢
  split at h
  case h_1 =>
    split_ifs at h ⊢
    · exact absurd rfl h
    · rfl
  case h_2 => exact absurd rfl h

/-- V7 has one error (R169). -/
theorem checkOverlap_of_not (hi : writesBuffer i = true) (h : ¬RegionsDisjoint s (destinationSize s i)) :
    checkOverlap i s = some .aliased := by
  rw [← (checkRegions_none hi).2] at h
  unfold checkOverlap at h ⊢
  split at h
  case h_1 =>
    split_ifs at h ⊢
    · rfl
    · exact absurd rfl h
  case h_2 => exact absurd rfl h

/-! ### The first error (R164) -/

@[simp] theorem firstError_cons_none (l : List (Option CmdError)) : firstError (none :: l) = firstError l := rfl

@[simp] theorem firstError_cons_some (l : List (Option CmdError)) : firstError (some e :: l) = some e := rfl

theorem whenApplies_of_applies {b : Bool} (hb : b = true) (r : Option CmdError) : whenApplies b r = r := if_pos hb

theorem validate_of_checkSourceDims (hi : usesSource i = true) (h : checkSourceDims s = some e) :
    validate i s = some e := by
  rw [validate, whenApplies_of_applies hi, h, firstError_cons_some]

theorem validate_of_checkTargetDims (hi : usesTargetDims i = true) (hs : SourceLegal s) (h : checkTargetDims s = some e) :
    validate i s = some e := by
  rw [validate, whenApplies_none.mpr fun _ => (checkSourceDims_none s).mpr hs, whenApplies_of_applies hi, h,
    firstError_cons_none, firstError_cons_some]

theorem validate_lutApply_of_checkTable (hs : SourceLegal s) (h : checkTable s = some e) :
    validate .lutApply s = some e := by
  have hdims : whenApplies (usesSource .lutApply) (checkSourceDims s) = none :=
    whenApplies_none.mpr fun _ => (checkSourceDims_none s).mpr hs
  have htarget : whenApplies (usesTargetDims .lutApply) (checkTargetDims s) = none := rfl
  have htable : whenApplies (usesTable .lutApply) (checkTable s) = some e := h
  rw [validate, hdims, htarget, htable, firstError_cons_none, firstError_cons_none,
    firstError_cons_some]

/-- Once V2, V3 and V4 have passed, the regions and the coordinates decide. -/
theorem validate_of_dimensionsLegal (h : DimensionsLegal s i) :
    validate i s =
      firstError [whenApplies (usesSource i) (checkSourceFits s), checkDestinationFits i s, checkOverlap i s,
        checkCoordinates i s] := by
  obtain ⟨hsource, htarget, htable⟩ := dimensionsLegal_iff.mp h
  rw [validate, whenApplies_none.mpr fun hi => (checkSourceDims_none s).mpr (hsource hi),
    whenApplies_none.mpr fun hi => (checkTargetDims_none s).mpr (htarget hi),
    whenApplies_none.mpr fun hi => (checkTable_none s).mpr (htable hi), firstError_cons_none, firstError_cons_none,
    firstError_cons_none]

theorem validate_of_not_sourceFits (h : DimensionsLegal s i) (hi : usesSource i = true) (hsrc : ¬SourceFits s) :
    validate i s = some (.regionOverflow .source) := by
  rw [validate_of_dimensionsLegal h, whenApplies_of_applies hi, checkSourceFits_of_not hsrc, firstError_cons_some]

theorem validate_of_not_destinationFits (h : DimensionsLegal s i) (hi : writesBuffer i = true) (hsrc : SourceFits s)
    (hdst : ¬DestinationFits s (destinationSize s i)) : validate i s = some (.regionOverflow .destination) := by
  rw [validate_of_dimensionsLegal h, whenApplies_none.mpr fun _ => (checkSourceFits_none s).mpr hsrc,
    checkDestinationFits_of_not hi hdst, firstError_cons_none, firstError_cons_some]

theorem validate_of_not_regionsDisjoint (h : DimensionsLegal s i) (hi : writesBuffer i = true) (hsrc : SourceFits s)
    (hdst : DestinationFits s (destinationSize s i)) (hover : ¬RegionsDisjoint s (destinationSize s i)) :
    validate i s = some .aliased := by
  rw [validate_of_dimensionsLegal h, whenApplies_none.mpr fun _ => (checkSourceFits_none s).mpr hsrc,
    (checkRegions_none hi).1.mpr hdst, checkOverlap_of_not hi hover, firstError_cons_none, firstError_cons_none,
    firstError_cons_some]

/-! ### Equal bases (R169) -/

theorem sourceSize_pos (h : SourceLegal s) : 0 < sourceSize s := by
  obtain ⟨hw, hh, hc⟩ := h
  have hc1 : 1 ≤ s.srcC.toNat := by omega
  exact Nat.mul_pos (Nat.mul_pos hw hh) hc1

/-- A legal destination is not empty. -/
theorem destinationSize_pos (hi : writesBuffer i = true) (h : DimensionsLegal s i) : 0 < destinationSize s i := by
  obtain ⟨hsource, htarget, -⟩ := dimensionsLegal_iff.mp h
  obtain ⟨hw, hh, hc⟩ := hsource (usesSource_of_writesBuffer hi)
  have hc1 : 1 ≤ s.srcC.toNat := by omega
  cases i with
  | lutApply => exact sourceSize_pos ⟨hw, hh, hc⟩
  | gray => exact Nat.mul_pos hw hh
  | rsNearest | rsBilinear =>
    obtain ⟨how, hoh⟩ := htarget rfl
    exact Nat.mul_pos (Nat.mul_pos how hoh) hc1
  | nop | lutNeg | lutLog | lutGamma | addrRaw | addrClamp => cases hi

/-- Two regions that are not empty share the byte at their common base. -/
theorem not_regionsDisjoint_of_base_eq (h : DimensionsLegal s i) (hi : writesBuffer i = true)
    (hbase : s.srcBase = s.dstBase) : ¬RegionsDisjoint s (destinationSize s i) := by
  have hss := sourceSize_pos ((dimensionsLegal_iff.mp h).1 (usesSource_of_writesBuffer hi))
  have hds := destinationSize_pos hi h
  rw [RegionsDisjoint, hbase, not_not]
  exact ⟨by omega, by omega⟩

/-- A command whose checks find an error completes with it (R163, R173). -/
theorem exec_eq_failed (h : validate i s = some e) : exec i s = .next (failed s e.code e.info) := exec_of_error h

end Sys2Proof.Machine
end

section
/-! SUPPORT. What the effect of a command may change (spec/41_command_control.md R163), what a host transaction may change
while BUSY = 1 (R161), and that a running command completes (R162). -/

namespace Sys2Proof.Machine

open Sys2Proof.Safety

/-! ### The effect of a command -/

/-- The effect of a command touches at most OUT_*, the table, PBA_ADDR, PBA_DATA and pixel memory. -/
theorem effect_frame (i : Instr) (s : State) :
    effect i s = { s with
      outW := (effect i s).outW, outH := (effect i s).outH, outC := (effect i s).outC, lut := (effect i s).lut,
      lutValid := (effect i s).lutValid, pbaAddr := (effect i s).pbaAddr, pbaData := (effect i s).pbaData,
      pix := (effect i s).pix } := by
  cases i <;> rfl

/-- Only the build commands change the table (R220). -/
theorem effect_table {i : Instr} (hi : i ∉ [.lutNeg, .lutLog, .lutGamma]) (s : State) :
    (effect i s).lut = s.lut ∧ (effect i s).lutValid = s.lutValid := by
  cases i with
  | lutNeg | lutLog | lutGamma => exact absurd hi (by decide)
  | nop | lutApply | gray | rsNearest | rsBilinear | addrRaw | addrClamp => exact ⟨rfl, rfl⟩

/-- The codes of the errors are 1 to 6 (R280). -/
theorem code_range (e : CmdError) : 1 ≤ e.code.toNat ∧ e.code.toNat ≤ 6 := by
  cases e <;> simp [CmdError.code]

/-! ### The engine's step -/

theorem completeStep_of_decode {s : State} {i : Instr} (h : decode s.cmdLast = some i) : completeStep s = exec i s := by
  rw [completeStep, h]

/-! ### The host while BUSY = 1 -/

/-- While BUSY = 1 a host transaction touches at most DONE, ERR, WIGN, the hold and the responses (R144, R147, R161). -/
theorem hostTransaction_frame_busy {s : State} (hb : s.busy = true) (r : BusRequest) :
    s.hostTransaction r = { s with
      done := (s.hostTransaction r).done, err := (s.hostTransaction r).err, wign := (s.hostTransaction r).wign,
      held := (s.hostTransaction r).held, responses := (s.hostTransaction r).responses } := by
  cases hspace : r.space with
  | pix =>
    rw [hostTransaction_pix_busy hb hspace]
    rfl
  | reg =>
    have hreg : s.hostTransaction r = s.regTransaction r := by rw [State.hostTransaction, hspace]
    rw [hreg]
    obtain h | ⟨a, h⟩ | ⟨d, -, h⟩ | ⟨-, h⟩ | ⟨n, d, hidle, -⟩ := regTransaction_cases s r
    · rw [h]
    · rw [h]; rfl
    · rw [h]; rfl
    · rw [h]; rfl
    · rw [hb] at hidle
      cases hidle

/-! ### Bounded completion (R162) -/

/-- The state `t` has completed the command that runs in `s`. -/
def Completed (s t : State) : Prop := t.busy = false ∧ t.cmdCount = s.cmdCount + 1

/-- A step that is the completion step at a state with the same count completes the command. -/
theorem exists_completed_of_step {s u : State} (hstep : step s = completeStep u) (hcount : u.cmdCount = s.cmdCount) :
    ∃ t, step s = .next t ∧ Completed s t := by
  obtain ⟨t, ht, hbusy, hc⟩ := completeStep_counts u
  exact ⟨t, hstep.trans ht, hbusy, hcount ▸ hc⟩

/-- Unless a hard reset comes, a step of a busy engine completes its command or is a host turn. -/
theorem step_busy_cases {s : State} (hb : s.busy = true) (hn : Turn.hardReset ∉ s.turns) :
    (∃ t, step s = .next t ∧ Completed s t) ∨
      ∃ r ts, s.turns = .host r :: ts ∧ step s = .next ((s.setTurns ts).hostTransaction r) := by
  have hfirst : ∀ ts, s.turns ≠ .hardReset :: ts := fun ts hts => hn (hts ▸ List.mem_cons_self)
  cases hheld : s.held with
  | some r => exact .inl (exists_completed_of_step (step_held_busy hheld hb hfirst) rfl)
  | none =>
    cases hts : s.turns with
    | nil => exact .inl (exists_completed_of_step (step_empty_busy hb hts) rfl)
    | cons u ts =>
      cases u with
      | host r => exact .inr ⟨r, ts, rfl, step_host hheld hts⟩
      | engine => exact .inl (exists_completed_of_step (step_engine_busy hb hts) rfl)
      | statusWriteAtCompletion d =>
        exact .inl (exists_completed_of_step (step_statusWriteAtCompletion hheld hb hts) rfl)
      | hardReset => exact absurd hts (hfirst ts)

/-- A host turn leaves BUSY, the count and the later turns alone, so the number of turns bounds the run to completion. -/
theorem exists_run_completed {s : State} (hb : s.busy = true) (hn : Turn.hardReset ∉ s.turns) :
    ∃ k t, k ≤ s.turns.length + 1 ∧ run k s = .next t ∧ Completed s t := by
  induction hts : s.turns generalizing s with
  | nil =>
    obtain ⟨t, ht, hdone⟩ := exists_completed_of_step (step_empty_busy hb hts) rfl
    exact ⟨1, t, le_rfl, run_one ht, hdone⟩
  | cons u ts ih =>
    obtain ⟨t, ht, hdone⟩ | ⟨r, us, hus, hstep⟩ := step_busy_cases hb hn
    · exact ⟨1, t, Nat.le_add_left 1 _, run_one ht, hdone⟩
    · obtain ⟨rfl, rfl⟩ := List.cons.inj (hts.symm.trans hus)
      have hframe := hostTransaction_frame_busy (s := s.setTurns ts) hb r
      have hturns : ((s.setTurns ts).hostTransaction r).turns = ts := by rw [hframe]; rfl
      have hbusy : ((s.setTurns ts).hostTransaction r).busy = true := by rw [hframe]; exact hb
      have hcount : ((s.setTurns ts).hostTransaction r).cmdCount = s.cmdCount := by rw [hframe]; rfl
      have hrest : Turn.hardReset ∉ ts := fun hmem => hn (hts ▸ List.mem_cons_of_mem _ hmem)
      obtain ⟨k, t, hk, hrun, hidle, hc⟩ := ih hbusy (hturns.symm ▸ hrest) hturns
      exact ⟨k + 1, t, Nat.succ_le_succ hk, (run_succ hstep k).trans hrun, hidle, hcount ▸ hc⟩

/-! ### NOP from reset (R170) -/

theorem statusWord_succeeded_powerOn (c : Config) : (succeeded (State.powerOn c)).statusWord = 0x00000002 := by
  have hvalid : (succeeded (State.powerOn c)).lutAllValid = false := lutAllValid_powerOn c
  rw [State.statusWord, hvalid]
  simp only [succeeded, State.powerOn]
  decide

end Sys2Proof.Machine
end

section
/-! The statements about the commands' control of spec/41_command_control.md. -/

namespace Sys2Proof.Proofs

open Sys2Proof.Machine Sys2Proof.Safety

/-- Settles O7: by induction on the turns; a host turn leaves the command running, any other turn completes it. -/
theorem acceptedCommandCompletes : Obligations.AcceptedCommandCompletes := fun _ hb hn =>
  exists_run_completed hb hn

/-- Settles O29: the frame of a host transaction while BUSY = 1. -/
theorem hostCannotDisturbARunningCommand : Obligations.HostCannotDisturbARunningCommand := fun _ r hb =>
  ⟨_, rfl, hostTransaction_frame_busy hb r⟩

/-- Settles O31: the completion with the error of the checks, or, when they pass, that of the effect, which leaves the
count and ERR alone. -/
theorem everyCompletionReportsAndCounts : Obligations.EveryCompletionReportsAndCounts := by
  intro i s
  cases hv : validate i s with
  | none =>
    refine ⟨_, exec_of_ok hv, rfl, ?_, .inl ⟨rfl, rfl, rfl, ?_⟩⟩
    · rw [completeOk_cmdCount, effect_cmdCount]
    · rw [completeOk_err, effect_err]
  | some e =>
    obtain ⟨hlo, hhi⟩ := code_range e
    exact ⟨_, exec_of_error hv, rfl, rfl, .inr ⟨hlo, hhi, rfl, rfl, fun _ => rfl, rfl, rfl, rfl, rfl, rfl, rfl, rfl⟩⟩

/-- Settles O32: an error completion writes the status alone, and to that a successful one adds the effect of the command. -/
theorem commandsLeaveOperandsAlone : Obligations.CommandsLeaveOperandsAlone := by
  intro i s t h
  obtain ⟨e, -, rfl⟩ | ⟨-, rfl⟩ := exec_cases h
  · exact ⟨rfl, fun _ => ⟨rfl, rfl⟩⟩
  · refine ⟨?_, fun hi => effect_table hi s⟩
    rw [completeOk_err, completeOk_cmdCount, effect_err, effect_cmdCount]
    exact congrArg State.completeOk (effect_frame i s)

/-- Settles O35: V2 is the first check, and it fails on the first illegal field. -/
theorem sourceDimensionsAreChecked : Obligations.SourceDimensionsAreChecked := by
  intro i s hmem
  have hi := usesSource_iff_mem.mpr hmem
  exact ⟨fun hw => exec_eq_failed (validate_of_checkSourceDims hi (checkSourceDims_srcW hw)),
    fun hw hh => exec_eq_failed (validate_of_checkSourceDims hi (checkSourceDims_srcH hw hh)),
    fun hw hh h1 h3 => exec_eq_failed (validate_of_checkSourceDims hi (checkSourceDims_srcC hw hh h1 h3))⟩

/-- Settles O36: V3 comes next after V2, and it fails on the first field that is 0. -/
theorem targetDimensionsAreChecked : Obligations.TargetDimensionsAreChecked := by
  intro i s hmem hs
  have hi := usesTargetDims_iff_mem.mpr hmem
  exact ⟨fun hw => exec_eq_failed (validate_of_checkTargetDims hi hs (checkTargetDims_dstW hw)),
    fun hw hh => exec_eq_failed (validate_of_checkTargetDims hi hs (checkTargetDims_dstH hw hh))⟩

/-- Settles O37: V4 comes next after V2 for LUT.APPLY, and it fails on the lowest index that is not valid. -/
theorem lowestUnloadedEntryIsReported : Obligations.LowestUnloadedEntryIsReported := fun _ _ hk hs hinvalid hbelow =>
  exec_eq_failed (validate_lutApply_of_checkTable hs (checkTable_lowest hk hinvalid hbelow))

/-- Settles O38: V5, V6 and V7 in their order, and two regions that are not empty overlap when their bases are equal. -/
theorem regionsAreChecked : Obligations.RegionsAreChecked := fun _ _ h =>
  ⟨fun hmem hsrc => exec_eq_failed (validate_of_not_sourceFits h (usesSource_iff_mem.mpr hmem) hsrc),
    fun hi hsrc hdst => exec_eq_failed (validate_of_not_destinationFits h hi hsrc hdst),
    fun hi hsrc hdst hover => exec_eq_failed (validate_of_not_regionsDisjoint h hi hsrc hdst hover),
    not_regionsDisjoint_of_base_eq h⟩

/-- Settles O5: the engine's own turn, no turn left and a turn that waits behind a held transaction are the completion step,
which decodes CMD_LAST. -/
theorem stepRunsTheDecodedCommand : Obligations.StepRunsTheDecodedCommand := by
  refine ⟨fun s i hb hd _ => ?_, fun s hb hd => ?_⟩
  · have hc : completeStep s = exec i s := completeStep_of_decode hd
    exact ⟨fun ts hts => (step_engine_busy hb hts).trans (completeStep_of_decode (s := s.setTurns ts) hd),
      fun hts => (step_empty_busy hb hts).trans hc,
      fun r q ts hheld hts => (step_held_waits hheld hb hts nofun nofun).trans hc,
      fun r d ts hheld hts => (step_held_waits hheld hb hts nofun nofun).trans hc⟩
  · have hc : completeStep s = .next (failed s 0x02 s.cmdLast) := completeStep_of_unknown hd
    exact ⟨fun ts hts => (step_engine_busy hb hts).trans (completeStep_of_unknown (s := s.setTurns ts) hd),
      fun hts => (step_empty_busy hb hts).trans hc,
      fun r q ts hheld hts => (step_held_waits hheld hb hts nofun nofun).trans hc,
      fun r d ts hheld hts => (step_held_waits hheld hb hts nofun nofun).trans hc⟩

/-- Settles O21: CMD is the register at 0x10, and its write is the issue of R160. -/
theorem issueStoresTheWordAndNothingElse : Obligations.IssueStoresTheWordAndNothingElse := fun _ d hb =>
  hostTransaction_write_offset hb d .cmd

/-- Settles O30: the error completions of the checks and of V1. -/
theorem errorCompletionWritesExactly : Obligations.ErrorCompletionWritesExactly := fun _ =>
  ⟨fun _ _ => exec_eq_failed, completeStep_of_unknown⟩

/-- Settles O41: NOP has no checks and no effect, and after power-on no other flag of STATUS is set. -/
theorem nopCompletes : Obligations.NopCompletes := by
  refine ⟨decode_encode .nop, by decide, fun s => exec_of_ok (validate_total_none s (.inl rfl)), fun c => ⟨?_, rfl⟩⟩
  exact (regValueAt_offset _ .status).trans (statusWord_succeeded_powerOn c)

end Sys2Proof.Proofs
end

section
/-! SUPPORT. The address function of the pixel_buffer_addresser (spec/42_pixel_buffer_addresser.md R190, R191), and the two
commands that read the byte at an address (R194 to R196). -/

namespace Sys2Proof.Machine

open Sys2Proof.Safety

/-! ### The address function (R191) -/

theorem base_le_addr (d : Desc) (x y ch : Nat) : d.base ≤ d.addr x y ch := by
  unfold Desc.addr
  omega

theorem addr_row_succ (d : Desc) (x y ch : Nat) : d.addr x (y + 1) ch = d.addr x y ch + d.w * d.c := by
  unfold Desc.addr
  ring

theorem addr_column_succ (d : Desc) (x y ch : Nat) : d.addr (x + 1) y ch = d.addr x y ch + d.c := by
  unfold Desc.addr
  ring

/-- An address has one in-range triple: the offset gives back its coordinates. -/
theorem addr_injective {d : Desc} {x y ch x' y' ch' : Nat} (hx : x < d.w) (hc : ch < d.c) (hx' : x' < d.w)
    (hc' : ch' < d.c) (h : d.addr x y ch = d.addr x' y' ch') : x = x' ∧ y = y' ∧ ch = ch' := by
  have hoffset : (y * d.w + x) * d.c + ch = (y' * d.w + x') * d.c + ch' := by
    unfold Desc.addr at h
    omega
  obtain ⟨h1, h2, h3⟩ := coords_of_offset (y := y) hx hc
  obtain ⟨h1', h2', h3'⟩ := coords_of_offset (y := y') hx' hc'
  rw [hoffset] at h1 h2 h3
  exact ⟨h1.symm.trans h1', h2.symm.trans h2', h3.symm.trans h3'⟩

/-- Every offset of the region is an address. -/
theorem exists_addr_eq {d : Desc} {a : Nat} (hlo : d.base ≤ a) (hhi : a < d.base + d.size) :
    ∃ x y ch, x < d.w ∧ y < d.h ∧ ch < d.c ∧ d.addr x y ch = a := by
  have hi : a - d.base < d.w * d.h * d.c := by
    unfold Desc.size at hhi
    omega
  obtain ⟨hx, hy, hc, hoffset⟩ := offset_of_coords hi
  refine ⟨_, _, _, hx, hy, hc, ?_⟩
  unfold Desc.addr
  omega

theorem pixBytes_le (c : Config) : c.pixBytes ≤ 2 ^ 32 := c.lastOffset.isLt

/-! ### Clamped coordinates (R192) -/

theorem clamp_toNat_eq_edge (v : Int) {n : Nat} (hn : 1 ≤ n) : (clamp v 0 (n - 1)).toNat = edge v n := by
  unfold clamp edge
  split_ifs <;> omega

theorem clampAddress_eq {s : State} (h : SourceLegal s) :
    clampAddress s =
      s.srcBase.toNat +
        (edge s.pbaY.toInt s.srcH.toNat * s.srcW.toNat + edge s.pbaX.toInt s.srcW.toNat) * s.srcC.toNat +
        s.pbaCh.toNat := by
  obtain ⟨hw, hh, -⟩ := h
  rw [← clamp_toNat_eq_edge _ hw, ← clamp_toNat_eq_edge _ hh]
  rfl

/-- In-range coordinates are not negative, so the address is the same on the integers. -/
theorem rawAddress_cast {s : State} (hx : 0 ≤ s.pbaX.toInt) (hy : 0 ≤ s.pbaY.toInt) :
    (rawAddress s : ℤ) =
      s.srcBase.toNat + (s.pbaY.toInt * s.srcW.toNat + s.pbaX.toInt) * s.srcC.toNat + s.pbaCh.toNat := by
  simp [rawAddress, Desc.addr, State.source, State.coordX, State.coordY, State.coordCh, hx, hy]

/-! ### The coordinate checks (R172) -/

/-- Once V2 and V5 have passed, the coordinates of an ADDR command decide. -/
theorem validate_addr_eq_checkCoordinates {i : Instr} {s : State} (hi : i ∈ [.addrRaw, .addrClamp])
    (hlegal : SourceLegal s) (hfits : SourceFits s) : validate i s = checkCoordinates i s := by
  have hsource : whenApplies (usesSource i) (checkSourceFits s) = none :=
    whenApplies_none.mpr fun _ => (checkSourceFits_none s).mpr hfits
  obtain ⟨hdims, hdestination, hoverlap⟩ :
      DimensionsLegal s i ∧ checkDestinationFits i s = none ∧ checkOverlap i s = none := by
    obtain rfl | rfl := List.mem_pair.mp hi <;> exact ⟨hlegal, rfl, rfl⟩
  rw [validate_of_dimensionsLegal hdims, hsource, hdestination, hoverlap, firstError_cons_none, firstError_cons_none,
    firstError_cons_none]
  cases checkCoordinates i s <;> rfl

section RawCoordinates

variable {s : State}

/-- The check of ADDR.RAW fails on the first of X, Y and the channel that is out of range (R194). -/
theorem checkRawCoordinates_x (hx : s.pbaX.toInt < 0 ∨ (s.srcW.toNat : ℤ) ≤ s.pbaX.toInt) :
    checkRawCoordinates s = some (.addrRange .x) := if_pos hx

theorem checkRawCoordinates_y (hx0 : 0 ≤ s.pbaX.toInt) (hx : s.pbaX.toInt < s.srcW.toNat)
    (hy : s.pbaY.toInt < 0 ∨ (s.srcH.toNat : ℤ) ≤ s.pbaY.toInt) :
    checkRawCoordinates s = some (.addrRange .y) :=
  (if_neg (not_or.mpr ⟨not_lt.mpr hx0, not_le.mpr hx⟩)).trans (if_pos hy)

theorem checkRawCoordinates_channel (hx0 : 0 ≤ s.pbaX.toInt) (hx : s.pbaX.toInt < s.srcW.toNat)
    (hy0 : 0 ≤ s.pbaY.toInt) (hy : s.pbaY.toInt < s.srcH.toNat) (hc : s.srcC.toNat ≤ s.pbaCh.toNat) :
    checkRawCoordinates s = some (.addrRange .channel) :=
  (if_neg (not_or.mpr ⟨not_lt.mpr hx0, not_le.mpr hx⟩)).trans <|
    (if_neg (not_or.mpr ⟨not_lt.mpr hy0, not_le.mpr hy⟩)).trans (if_pos hc)

end RawCoordinates

/-- The check of ADDR.CLAMP fails on the channel alone (R195). -/
theorem checkClampCoordinates_channel {s : State} (hc : s.srcC.toNat ≤ s.pbaCh.toNat) :
    checkClampCoordinates s = some (.addrRange .channel) := if_pos hc

/-! ### The completion of an ADDR command (R196) -/

/-- A command that reads the byte at an offset of pixel memory into PBA_ADDR and PBA_DATA changes nothing else but the
status. -/
theorem exec_of_effect_eq_setPba {i : Instr} {s : State} {a : Nat} (hv : validate i s = none)
    (heffect : effect i s = s.setPba a) (ha : a < s.cfg.pixBytes) :
    ∃ t, exec i s = .next t ∧ t.pbaAddr.toNat = a ∧ t.pbaAddr.toNat < s.cfg.pixBytes ∧
      t.pbaData = s.readPix t.pbaAddr.toNat ∧ (∀ b, t.readPix b = s.readPix b) ∧
      t = succeeded { s with pbaAddr := t.pbaAddr, pbaData := t.pbaData } := by
  have haddr : (s.setPba a).completeOk.pbaAddr.toNat = a := toNat_ofNat_of_lt_pixBytes ha
  refine ⟨(s.setPba a).completeOk, heffect ▸ exec_of_ok hv, haddr, haddr.trans_lt ha, ?_, fun _ => rfl, rfl⟩
  rw [haddr]
  rfl

/-- The effect of an ADDR command reads one byte. -/
theorem effect_addr {i : Instr} (hi : i ∈ [.addrRaw, .addrClamp]) (s : State) : ∃ a, effect i s = s.setPba a := by
  obtain rfl | rfl := List.mem_pair.mp hi
  · exact ⟨rawAddress s, rfl⟩
  · exact ⟨clampAddress s, rfl⟩

/-- The checks and the effect of an ADDR command do not read the destination descriptor. -/
theorem addr_ignores_destination {i : Instr} (hi : i ∈ [.addrRaw, .addrClamp]) (s : State) (b : Word) (w h : Half) :
    validate i { s with dstBase := b, dstW := w, dstH := h } = validate i s ∧
      effect i { s with dstBase := b, dstW := w, dstH := h } =
        { effect i s with dstBase := b, dstW := w, dstH := h } := by
  obtain rfl | rfl := List.mem_pair.mp hi <;> exact ⟨rfl, rfl⟩

end Sys2Proof.Machine
end

section
/-! The statements about the pixel_buffer_addresser of spec/42_pixel_buffer_addresser.md. -/

namespace Sys2Proof.Proofs

open Sys2Proof.Machine Sys2Proof.Safety

/-- Settles O56: an address is the base and an offset of the region, from which the triple is recovered by division. -/
theorem addressIsABijection : Obligations.AddressIsABijection := by
  refine fun d => ⟨fun x y ch hx hy hc => ?_, fun a => exists_addr_eq, fun c hfits x y ch hx hy hc => ?_⟩
  · exact ⟨base_le_addr d x y ch, addr_lt hx hy hc, addr_row_succ d x y ch, addr_column_succ d x y ch,
      fun _ _ _ hx' _ hc' => addr_injective hx hc hx' hc'⟩
  · have hlt : d.addr x y ch < c.pixBytes := (addr_lt hx hy hc).trans_le hfits
    exact ⟨hlt, hlt.trans_le (pixBytes_le c)⟩

/-- Settles O57: the coordinates are the one check left, and when they are in range the command reads the byte at their
address, `exec_of_effect_eq_setPba`. -/
theorem addrRawReadsTheAddressedSample : Obligations.AddrRawReadsTheAddressedSample := by
  intro s hlegal hfits
  have hcheck : validate .addrRaw s = checkRawCoordinates s :=
    validate_addr_eq_checkCoordinates (by decide) hlegal hfits
  refine ⟨fun hx => exec_eq_failed (hcheck.trans (checkRawCoordinates_x hx)),
    fun hx0 hx hy => exec_eq_failed (hcheck.trans (checkRawCoordinates_y hx0 hx hy)),
    fun hx0 hx hy0 hy =>
      ⟨fun hc => exec_eq_failed (hcheck.trans (checkRawCoordinates_channel hx0 hx hy0 hy hc)), fun hc => ?_⟩⟩
  have hv : validate .addrRaw s = none :=
    (validate_addrRaw_none s).mpr ⟨hlegal, hfits, ⟨hx0, hx⟩, ⟨hy0, hy⟩, hc⟩
  obtain ⟨t, hexec, haddr, hrest⟩ := exec_of_effect_eq_setPba hv rfl (rawAddress_lt hv)
  refine ⟨t, hexec, ?_, hrest⟩
  rw [haddr, rawAddress_cast hx0 hy0]

/-- Settles O58: the channel is the one check left, and the address read is that of the clamped coordinates. -/
theorem addrClampReadsTheEdgeSample : Obligations.AddrClampReadsTheEdgeSample := by
  intro s hlegal hfits
  have hcheck : validate .addrClamp s = checkClampCoordinates s :=
    validate_addr_eq_checkCoordinates (by decide) hlegal hfits
  refine ⟨fun hc => exec_eq_failed (hcheck.trans (checkClampCoordinates_channel hc)), fun hc => ?_⟩
  have hv : validate .addrClamp s = none := (validate_addrClamp_none s).mpr ⟨hlegal, hfits, hc⟩
  obtain ⟨t, hexec, haddr, hlt, hdata, hrest⟩ := exec_of_effect_eq_setPba hv rfl (clampAddress_lt hv)
  rw [clampAddress_eq hlegal] at haddr
  refine ⟨t, hexec, haddr, hlt, ?_, hrest⟩
  rw [hdata, haddr, edgeSample]

/-- Settles O59: the effect of an ADDR command is to set PBA_ADDR and PBA_DATA, and neither it nor the checks read DST_*. -/
theorem addrCommandsWriteOnlyPba : Obligations.AddrCommandsWriteOnlyPba := by
  intro i s t hi h
  obtain ⟨e, hv, rfl⟩ | ⟨hv, rfl⟩ := exec_cases h
  · refine ⟨rfl, fun b width height => ?_⟩
    obtain ⟨hvalidate, -⟩ := addr_ignores_destination hi s b width height
    exact exec_of_error (hvalidate.trans hv)
  · refine ⟨?_, fun b width height => ?_⟩
    · obtain ⟨a, heffect⟩ := effect_addr hi s
      rw [heffect]
      rfl
    · obtain ⟨hvalidate, heffect⟩ := addr_ignores_destination hi s b width height
      rw [exec_of_ok (hvalidate.trans hv), heffect]
      rfl

end Sys2Proof.Proofs
end

section
/-! SUPPORT. Rounding half up (spec/00_scope.md R12) and the luma (spec/43_grayscale.md R210, R212). -/

namespace Sys2Proof.Machine

/-! ### Rounding half up (R12) -/

section
variable {d : Nat} (hd : 0 < d) (n : Nat)
include hd

/-- The argument of the floor in a half-up rounding of n/d, as one fraction. -/
theorem div_add_half_eq_div : (n : ℚ) / d + 1 / 2 = (2 * n + d : ℕ) / (2 * d : ℕ) := by
  have hd0 : (d : ℚ) ≠ 0 := Nat.cast_ne_zero.mpr hd.ne'
  push_cast
  field_simp

/-- `rhu` is the rounding over the rationals. -/
theorem rhu_eq_floor : (rhu n d : ℤ) = ⌊(n : ℚ) / d + 1 / 2⌋ := by
  rw [div_add_half_eq_div hd, Rat.floor_natCast_div_natCast]
  rfl

/-- `n/d + 1/2` is the rounded value itself exactly when the floor of R12 drops nothing: n/d is a half. -/
theorem div_add_half_eq_rhu_iff : (n : ℚ) / d + 1 / 2 = rhu n d ↔ 2 * n + d = rhu n d * (2 * d) := by
  have h2d : ((2 * d : ℕ) : ℚ) ≠ 0 := Nat.cast_ne_zero.mpr (by omega)
  rw [div_add_half_eq_div hd, div_eq_iff h2d]
  exact_mod_cast Iff.rfl

end

theorem rhu_mono (d : Nat) {n m : Nat} (h : n ≤ m) : rhu n d ≤ rhu m d :=
  Nat.div_le_div_right (by omega)

/-! ### The luma (R210, R212) -/

theorem luma_gray (v : Nat) : luma v v v = v := by
  unfold luma rhu
  omega

theorem luma_mono {r g b r' g' b' : Nat} (hr : r ≤ r') (hg : g ≤ g') (hb : b ≤ b') :
    luma r g b ≤ luma r' g' b' :=
  rhu_mono 1000 (by omega)

/-- The luma lies below any bound of its three samples. -/
theorem luma_le {r g b v : Nat} (hr : r ≤ v) (hg : g ≤ v) (hb : b ≤ v) : luma r g b ≤ v :=
  (luma_mono hr hg hb).trans_eq (luma_gray v)

/-- The luma is the exact weighted mean rounded half up. -/
theorem luma_eq_floor (r g b : Nat) :
    (luma r g b : ℤ) = ⌊(299 * (r : ℚ) + 587 * g + 114 * b) / 1000 + 1 / 2⌋ := by
  have h := rhu_eq_floor (d := 1000) (by decide) (299 * r + 587 * g + 114 * b)
  push_cast at h
  exact h

/-- The exact value is a half exactly at the residue 500. -/
theorem luma_tie_iff (r g b : Nat) :
    (299 * (r : ℚ) + 587 * g + 114 * b) / 1000 + 1 / 2 = luma r g b ↔
      (299 * r + 587 * g + 114 * b) % 1000 = 500 := by
  have h := div_add_half_eq_rhu_iff (d := 1000) (by decide) (299 * r + 587 * g + 114 * b)
  push_cast at h
  refine h.trans ?_
  unfold rhu
  omega

/-- A tie is rounded up. -/
theorem luma_of_tie {r g b : Nat} (h : (299 * r + 587 * g + 114 * b) % 1000 = 500) :
    luma r g b = (299 * r + 587 * g + 114 * b) / 1000 + 1 := by
  unfold luma rhu
  omega

end Sys2Proof.Machine
end

section
/-! SUPPORT. The completion of a command that writes a buffer (spec/41_command_control.md R163, spec/10_state.md R46), and
the samples that GRAY writes (spec/43_grayscale.md R211). -/

namespace Sys2Proof.Machine

open Sys2Proof.Safety

/-! ### The completion of a buffer-producing command -/

/-- A command whose effect is to write a buffer and report its shape leaves the samples in the buffer, every byte outside
it as it was, and nothing else changed but the status. -/
theorem exec_of_effect_eq_writeBuffer {i : Instr} {s : State} {d : Desc} {f : Nat → Nat → Nat → Byte} {w h : Half}
    {c : Byte} (hv : validate i s = none) (heffect : effect i s = (s.writeBuffer d f).setOut w h c) :
    ∃ t, exec i s = .next t ∧
      (∀ x y ch, x < d.w → y < d.h → ch < d.c → t.readPix (d.addr x y ch) = f x y ch) ∧
      (∀ a, ¬InDestination s i a → t.readPix a = s.readPix a) ∧ t = produced s t.pix w h c := by
  have houtside := fun a => readPix_effect_outside (i := i) (s := s) (a := a)
  have hexec := exec_of_ok hv
  rw [heffect] at houtside hexec
  exact ⟨_, hexec, fun _ _ _ => readPix_writeBuffer_at s d f, houtside, rfl⟩

/-! ### The samples of GRAY -/

/-- In a buffer of one channel the address is the base and the number of the pixel. -/
theorem addr_of_one_channel {d : Desc} (hc : d.c = 1) (x y : Nat) : d.addr x y 0 = d.base + (y * d.w + x) := by
  rw [Desc.addr, hc, Nat.mul_one, Nat.add_zero]

theorem graySample_of_one {s : State} (hc : s.srcC.toNat = 1) (x y : Nat) :
    graySample s x y = s.readPix (s.srcBase.toNat + (y * s.srcW.toNat + x)) := by
  have hsource : s.source.c = 1 := hc
  rw [graySample, if_pos hsource, addr_of_one_channel hsource]
  rfl

theorem graySample_of_three {s : State} (hc : s.srcC.toNat = 3) (x y : Nat) :
    (graySample s x y).toNat =
      luma (s.readPix (s.srcBase.toNat + (y * s.srcW.toNat + x) * 3)).toNat
        (s.readPix (s.srcBase.toNat + (y * s.srcW.toNat + x) * 3 + 1)).toNat
        (s.readPix (s.srcBase.toNat + (y * s.srcW.toNat + x) * 3 + 2)).toNat := by
  have hsource : s.source.c = 3 := hc
  have hne : s.source.c ≠ 1 := by omega
  have hbyte (v : Byte) : v.toNat ≤ 255 := Nat.le_of_lt_succ v.isLt
  have hlt := Nat.lt_succ_of_le <| luma_le (hbyte (s.readPix (s.source.addr x y 0)))
    (hbyte (s.readPix (s.source.addr x y 1))) (hbyte (s.readPix (s.source.addr x y 2)))
  rw [graySample, if_neg hne, BitVec.toNat_ofNat, Nat.mod_eq_of_lt hlt]
  simp only [Desc.addr, hsource]
  rfl

end Sys2Proof.Machine
end

section
/-! The statements about GRAY and the luma of spec/43_grayscale.md. -/

namespace Sys2Proof.Proofs

open Sys2Proof.Machine Sys2Proof.Safety

/-- Settles O47: the checks pass, and the buffer of one channel that GRAY writes holds the copy or the luma of each pixel. -/
theorem grayWritesCopyOrLuma : Obligations.GrayWritesCopyOrLuma := by
  intro s hlegal
  obtain ⟨t, hexec, hsamples, hrest⟩ := exec_of_effect_eq_writeBuffer ((validate_gray_none s).mpr hlegal) rfl
  refine ⟨t, hexec, fun x y hx hy => ?_, hrest⟩
  have hsample : t.readPix (s.dstBase.toNat + (y * s.srcW.toNat + x)) = graySample s x y :=
    addr_of_one_channel (d := s.grayDestination) rfl x y ▸ hsamples x y 0 hx hy Nat.one_pos
  refine ⟨fun hc => hsample.trans (graySample_of_one hc x y), fun hc => ?_⟩
  rw [hsample, graySample_of_three hc, luma_eq_floor]

/-- Settles O48: the weights add up to 1000, and the luma is the rounding of R12 over the rationals. -/
theorem lumaLaws : Obligations.LumaLaws := by
  refine ⟨fun v _ => luma_gray v, fun _ _ _ _ _ _ => luma_mono, fun _ _ _ => luma_le, fun r g b => ⟨?_, luma_of_tie⟩,
    by decide⟩
  rw [← luma_eq_floor, Int.cast_natCast]
  exact luma_tie_iff r g b

end Sys2Proof.Proofs
end

section
/-! SUPPORT. The completions of the intensity_transform_lut unit (spec/44_intensity_transform_lut.md R220), the
negative mapping (R222), and a buffer as its bytes in order (R226). -/

namespace Sys2Proof.Machine

open Sys2Proof.Safety

/-! ### The table -/

theorem tableLoaded_buildLut (s : State) (f : Nat → Byte) : TableLoaded (s.buildLut f) := fun i h => by
  simp [allValid]

/-- A build command completes with its mapping in the table and every entry valid, and changes nothing else but the
status (R220). -/
theorem exec_of_effect_eq_buildLut {i : Instr} {s : State} {f : Nat → Byte} (hv : validate i s = none)
    (heffect : effect i s = s.buildLut f) :
    ∃ t, exec i s = .next t ∧ (∀ b : Byte, t.lutAt b = f b.toNat) ∧ TableLoaded t ∧ t.lutAllValid = true ∧
      (∀ a, t.readPix a = s.readPix a) ∧ t = succeeded { s with lut := t.lut, lutValid := t.lutValid } :=
  ⟨(s.buildLut f).completeOk, heffect ▸ exec_of_ok hv, lutAt_buildLut s f, tableLoaded_buildLut s f,
    (lutAllValid_iff _).mpr (tableLoaded_buildLut s f), fun _ => rfl, rfl⟩

/-! ### The negative (R222) -/

theorem negEntry_toNat (r : Nat) : (negEntry r).toNat = 255 - r := by
  rw [negEntry, BitVec.toNat_ofNat, Nat.mod_eq_of_lt (by omega)]

theorem negEntry_involutive (b : Byte) : negEntry (negEntry b.toNat).toNat = b := by
  have hb := b.isLt
  apply BitVec.eq_of_toNat_eq
  rw [negEntry_toNat, negEntry_toNat]
  omega

/-! ### The bytes of a buffer (R226) -/

/-- Byte k of a region is at the address of the triple that k is divided into (R191). -/
theorem addr_of_offset {d : Desc} {k : Nat} (hk : k < d.size) :
    d.addr (k / d.c % d.w) (k / d.c / d.w) (k % d.c) = d.base + k := by
  obtain ⟨-, -, -, hoffset⟩ := offset_of_coords hk
  rw [Desc.addr, Nat.add_assoc, hoffset]

end Sys2Proof.Machine
end

section
/-! SUPPORT. The logarithm and the gamma mapping as roundings of their real formulas (spec/44_intensity_transform_lut.md
R223 to R225), and what follows for their shape (R227). -/

namespace Sys2Proof.Machine

open Sys2Proof.Safety

/-! ### The logarithm (R223) -/

/-- The real value of R223 whose floor is the logarithm entry. -/
noncomputable def logCurve (r : Nat) : ℝ := 255 / Real.log 256 * Real.log (1 + (r : ℝ)) + 1 / 2

/-- A bound on the real value, exponentiated: a comparison of naturals. -/
theorem le_logCurve_iff (n r : Nat) : (n : ℝ) ≤ logCurve r ↔ 256 ^ (2 * n) ≤ 256 * (1 + r) ^ 510 := by
  have hlog : 0 < Real.log 256 := Real.log_pos (by norm_num)
  have hr : (0 : ℝ) < 1 + r := by positivity
  have hleft : Real.log (256 ^ (2 * n)) = 2 * n * Real.log 256 := by
    rw [Real.log_pow]
    push_cast
    ring
  have hright : Real.log (256 * (1 + (r : ℝ)) ^ 510) = 2 * logCurve r * Real.log 256 := by
    rw [Real.log_mul (by norm_num) (by positivity), Real.log_pow, logCurve]
    field_simp
    push_cast
    ring
  calc (n : ℝ) ≤ logCurve r
      ↔ 2 * n * Real.log 256 ≤ 2 * logCurve r * Real.log 256 := by
        rw [mul_le_mul_iff_left₀ hlog, mul_le_mul_iff_right₀ two_pos]
    _ ↔ (256 : ℝ) ^ (2 * n) ≤ 256 * (1 + (r : ℝ)) ^ 510 := by
        rw [← hleft, ← hright, Real.log_le_log_iff (by positivity) (by positivity)]
    _ ↔ 256 ^ (2 * n) ≤ 256 * (1 + r) ^ 510 := by exact_mod_cast Iff.rfl

/-- The table of R223, entry by entry: each entry reaches the exact value, and its successor does not. -/
theorem logEntry_bounds : ∀ r < 256, 256 ^ (2 * (logEntry r).toNat) ≤ 256 * (1 + r) ^ 510 ∧
    256 * (1 + r) ^ 510 < 256 ^ (2 * ((logEntry r).toNat + 1)) := by
  decide +kernel

theorem logEntry_eq_floor {r : Nat} (hr : r < 256) : ((logEntry r).toNat : ℤ) = ⌊logCurve r⌋ := by
  obtain ⟨hle, hlt⟩ := logEntry_bounds r hr
  refine (Int.floor_eq_iff.mpr ⟨?_, ?_⟩).symm
  · exact_mod_cast (le_logCurve_iff _ r).mpr hle
  · rw [← not_le]
    exact_mod_cast mt (le_logCurve_iff _ r).mp hlt.not_ge

theorem logCurve_mono {r r' : Nat} (h : r ≤ r') : logCurve r ≤ logCurve r' := by
  have hlog : 0 < Real.log 256 := Real.log_pos (by norm_num)
  unfold logCurve
  gcongr

theorem logEntry_mono {r r' : Nat} (h : r ≤ r') (hr : r' ≤ 255) : (logEntry r).toNat ≤ (logEntry r').toNat := by
  have hfloor := Int.floor_mono (logCurve_mono h)
  rw [← logEntry_eq_floor (by omega), ← logEntry_eq_floor (by omega)] at hfloor
  exact_mod_cast hfloor

/-! ### The gamma mapping (R224, R225) -/

/-- The real value of R224 whose floor is the gamma entry, for the exponent g. -/
noncomputable def gammaCurve (g : ℝ) (r : Nat) : ℝ := 255 * ((r : ℝ) / 255) ^ g + 1 / 2

/-- The comparison of R225 fails above 255. -/
theorem le_of_gamma_compare {p q r n : Nat} (hq : 1 ≤ q) (hr : r ≤ 255)
    (h : (2 * n - 1) ^ q * 255 ^ p ≤ r ^ p * 510 ^ q) : n ≤ 255 := by
  by_contra hn
  refine h.not_gt ?_
  calc r ^ p * 510 ^ q
      ≤ 255 ^ p * 510 ^ q := Nat.mul_le_mul_right _ (Nat.pow_le_pow_left hr p)
    _ < 255 ^ p * (2 * n - 1) ^ q :=
        Nat.mul_lt_mul_of_pos_left (Nat.pow_lt_pow_left (by omega) (by omega)) (by positivity)
    _ = (2 * n - 1) ^ q * 255 ^ p := Nat.mul_comm _ _

/-- What the search of R225 finds: the values up to the entry are those that satisfy the comparison. -/
theorem le_gammaValue_iff {p q r n : Nat} (hq : 1 ≤ q) (hr0 : 1 ≤ r) (hr : r ≤ 255) (hn : 1 ≤ n) :
    n ≤ gammaValue p q r ↔ (2 * n - 1) ^ q * 255 ^ p ≤ r ^ p * 510 ^ q := by
  have hmono := gammaReaches_mono (p := p) hq hr
  obtain ⟨-, -, hreaches, habove⟩ := largestBelow_spec hmono 8 0 (.inl rfl)
  rw [gammaValue, if_neg (by omega), ← gammaReaches_iff hq hr]
  refine ⟨fun hle => hmono n _ hn hle (hreaches.resolve_left (by omega)), fun h => not_lt.mp fun hgt => ?_⟩
  have hn255 := le_of_gamma_compare hq hr ((gammaReaches_iff hq hr).mp h)
  exact Bool.false_ne_true ((habove n hgt (by omega)).symm.trans h)

/-- A bound on the real value, raised to the power q: the comparison of R225. -/
theorem le_gammaCurve_iff {p q r n : Nat} (hq : 1 ≤ q) (hn : 1 ≤ n) :
    (n : ℝ) ≤ gammaCurve (p / q) r ↔ (2 * n - 1) ^ q * 255 ^ p ≤ r ^ p * 510 ^ q := by
  have hr : (0 : ℝ) ≤ (r : ℝ) / 255 := by positivity
  have hq0 : (q : ℝ) ≠ 0 := by positivity
  have hpow : (((r : ℝ) / 255) ^ ((p : ℝ) / q)) ^ q = ((r : ℝ) / 255) ^ p := by
    rw [← Real.rpow_mul_natCast hr, div_mul_cancel₀ _ hq0, Real.rpow_natCast]
  have hodd : ((2 * n - 1 : ℕ) : ℝ) = 2 * n - 1 := by
    rw [Nat.cast_sub (by omega)]
    push_cast
    rfl
  calc (n : ℝ) ≤ gammaCurve (p / q) r
      ↔ ((2 * n - 1 : ℕ) : ℝ) / 510 ≤ ((r : ℝ) / 255) ^ ((p : ℝ) / q) := by
        rw [hodd, div_le_iff₀ (by norm_num), gammaCurve]
        constructor <;> intro h <;> linarith
    _ ↔ (((2 * n - 1 : ℕ) : ℝ) / 510) ^ q ≤ ((r : ℝ) / 255) ^ p := by
        rw [← hpow, pow_le_pow_iff_left₀ (by positivity) (by positivity) (by omega)]
    _ ↔ ((2 * n - 1 : ℕ) : ℝ) ^ q * 255 ^ p ≤ (r : ℝ) ^ p * 510 ^ q := by
        rw [div_pow, div_pow, div_le_div_iff₀ (by positivity) (by positivity)]
    _ ↔ (2 * n - 1) ^ q * 255 ^ p ≤ r ^ p * 510 ^ q := by exact_mod_cast Iff.rfl

theorem gammaCurve_nonneg (g : ℝ) (r : Nat) : 0 ≤ gammaCurve g r := by
  unfold gammaCurve
  positivity

/-- Entry 0, which R224 gives apart, is the floor of the real value too, since the exponent is positive. -/
theorem gammaValue_eq_floor {p q r : Nat} (hp : 1 ≤ p) (hq : 1 ≤ q) (hr : r ≤ 255) :
    (gammaValue p q r : ℤ) = ⌊gammaCurve (p / q) r⌋ := by
  have hnonneg := gammaCurve_nonneg (p / q) r
  rw [← Int.natCast_floor_eq_floor hnonneg, Nat.cast_inj]
  refine eq_of_forall_le_iff fun n => ?_
  obtain rfl | hn := Nat.eq_zero_or_pos n
  · simp
  rw [Nat.le_floor_iff hnonneg, le_gammaCurve_iff hq hn]
  obtain rfl | hr0 := Nat.eq_zero_or_pos r
  · have hodd : 0 < (2 * n - 1) ^ q * 255 ^ p := by
      have : 0 < 2 * n - 1 := by omega
      positivity
    rw [gammaValue, if_pos rfl, zero_pow (by omega), Nat.zero_mul]
    omega
  · exact le_gammaValue_iff hq hr0 hr hn

/-! ### Laws of the gamma mapping (R227) -/

theorem gammaCurve_mono {g : ℝ} (hg : 0 ≤ g) {r r' : Nat} (h : r ≤ r') : gammaCurve g r ≤ gammaCurve g r' := by
  unfold gammaCurve
  gcongr

/-- A base of at most 1 has smaller powers for larger exponents. -/
theorem gammaCurve_antitone_exponent {g g' : ℝ} (hg : 0 ≤ g) (h : g ≤ g') {r : Nat} (hr : r ≤ 255) :
    gammaCurve g' r ≤ gammaCurve g r := by
  have hbase : (r : ℝ) / 255 ≤ 1 := (div_le_one (by norm_num)).mpr (by exact_mod_cast hr)
  have hpow := Real.rpow_le_rpow_of_exponent_ge' (by positivity) hbase hg h
  unfold gammaCurve
  linarith

theorem floor_gammaCurve_one (r : Nat) : ⌊gammaCurve 1 r⌋ = r := by
  rw [gammaCurve, Real.rpow_one, mul_div_cancel₀ _ (by norm_num), Int.floor_natCast_add]
  norm_num

theorem floor_gammaCurve_255 (g : ℝ) : ⌊gammaCurve g 255⌋ = 255 := by
  rw [gammaCurve, Nat.cast_ofNat, div_self (by norm_num), Real.one_rpow]
  norm_num

section

variable {p q r : Nat} (hp : 1 ≤ p) (hq : 1 ≤ q)
include hp hq

theorem gammaValue_mono {r' : Nat} (h : r ≤ r') (hr : r' ≤ 255) : gammaValue p q r ≤ gammaValue p q r' := by
  have hfloor := Int.floor_mono (gammaCurve_mono (g := p / q) (by positivity) h)
  rw [← gammaValue_eq_floor hp hq (h.trans hr), ← gammaValue_eq_floor hp hq hr] at hfloor
  exact_mod_cast hfloor

theorem gammaValue_255 : gammaValue p q 255 = 255 := by
  have h := gammaValue_eq_floor hp hq (le_refl 255)
  rw [floor_gammaCurve_255] at h
  exact_mod_cast h

theorem gammaValue_le (hr : r ≤ 255) : gammaValue p q r ≤ 255 :=
  (gammaValue_mono hp hq hr le_rfl).trans_eq (gammaValue_255 hp hq)

theorem gammaValue_le_self (h : q ≤ p) (hr : r ≤ 255) : gammaValue p q r ≤ r := by
  have hexponent : (1 : ℝ) ≤ (p : ℝ) / q := (one_le_div (by positivity)).mpr (by exact_mod_cast h)
  have hfloor := Int.floor_mono (gammaCurve_antitone_exponent zero_le_one hexponent hr)
  rw [← gammaValue_eq_floor hp hq hr, floor_gammaCurve_one] at hfloor
  exact_mod_cast hfloor

theorem self_le_gammaValue (h : p ≤ q) (hr : r ≤ 255) : r ≤ gammaValue p q r := by
  have hexponent : (p : ℝ) / q ≤ 1 := (div_le_one (by positivity)).mpr (by exact_mod_cast h)
  have hfloor := Int.floor_mono (gammaCurve_antitone_exponent (by positivity) hexponent hr)
  rw [← gammaValue_eq_floor hp hq hr, floor_gammaCurve_one] at hfloor
  exact_mod_cast hfloor

end

/-! ### The exponent and the entry of LUT.GAMMA (R224) -/

/-- The fraction of R225 is the exponent of R224. -/
theorem gammaReal_eq_div (s : State) : gammaReal s = (s.gammaExponent.1 : ℝ) / s.gammaExponent.2 := by
  unfold gammaReal State.gammaExponent
  split
  case isTrue hk =>
    have hcast : ((s.gamma.toInt.toNat : ℕ) : ℝ) = s.gamma.toInt := by
      rw [← Int.cast_natCast, Int.toNat_of_nonneg hk.le]
    rw [Nat.cast_div_div_div_cancel_right (Nat.gcd_dvd_right _ _) (Nat.gcd_dvd_left _ _), hcast]
    norm_num
  case isFalse => norm_num

theorem gammaEntry_eq_floor (s : State) {r : Nat} (hr : r ≤ 255) :
    ((gammaEntry s.gammaExponent r).toNat : ℤ) = ⌊gammaCurve (gammaReal s) r⌋ := by
  obtain ⟨hp, hq⟩ := gammaExponent_pos s
  rw [gammaEntry, BitVec.toNat_ofNat, Nat.mod_eq_of_lt (Nat.lt_succ_of_le (gammaValue_le hp hq hr)),
    gammaValue_eq_floor hp hq hr, gammaReal_eq_div]

end Sys2Proof.Machine
end

section
/-! The statements about the intensity_transform_lut unit of spec/44_intensity_transform_lut.md. -/

namespace Sys2Proof.Proofs

open Sys2Proof.Machine Sys2Proof.Safety

/-- Settles O42: the table built is that of `negEntry`, which is its own inverse. -/
theorem lutNegBuildsTheNegativeTable : Obligations.LutNegBuildsTheNegativeTable := by
  refine ⟨decode_encode .lutNeg, fun s => ?_⟩
  obtain ⟨t, hexec, hentry, hrest⟩ :=
    exec_of_effect_eq_buildLut (i := .lutNeg) (f := negEntry) (validate_total_none s (by decide)) rfl
  refine ⟨t, hexec, fun b => ?_, fun b => ?_, hrest⟩
  · rw [hentry, negEntry_toNat]
  · rw [hentry, hentry, negEntry_involutive]

/-- Settles O43: every entry of the table of R223 is the floor of the real value. -/
theorem lutLogMatchesTheRealLogarithm : Obligations.LutLogMatchesTheRealLogarithm := by
  intro s
  obtain ⟨t, hexec, hentry, hrest⟩ :=
    exec_of_effect_eq_buildLut (i := .lutLog) (f := logEntry) (validate_total_none s (by decide)) rfl
  refine ⟨t, hexec, fun b => ?_, hrest⟩
  rw [hentry, logEntry_eq_floor b.isLt, logCurve]

/-- Settles O44: the entry that the comparison of R225 finds is the floor of the real value, for the exponent p/q that
GAMMA gives. -/
theorem lutGammaMatchesTheRealPower : Obligations.LutGammaMatchesTheRealPower := by
  intro s
  obtain ⟨t, hexec, hentry, hrest⟩ := exec_of_effect_eq_buildLut (i := .lutGamma) (f := gammaEntry s.gammaExponent)
    (validate_total_none s (by decide)) rfl
  refine ⟨t, hexec, hentry 0, fun b _ => ?_, hrest⟩
  rw [hentry, gammaEntry_eq_floor s (Nat.le_of_lt_succ b.isLt), gammaCurve]

/-- Settles O45: both mappings are floors of monotone real functions, and the powers of r/255, at most 1, fall as the
exponent rises. -/
theorem pointMappingLaws : Obligations.PointMappingLaws := by
  refine ⟨fun p q hp hq => ⟨rfl, gammaValue_255 hp hq, fun _ _ => gammaValue_mono hp hq, fun h _ hr => ?_,
    fun h _ => gammaValue_le_self hp hq h.le, fun h _ => self_le_gammaValue hp hq h.le⟩,
    rfl, rfl, fun _ _ => logEntry_mono⟩
  exact (gammaValue_le_self hp hq h.ge hr).antisymm (self_le_gammaValue hp hq h.le hr)

/-- Settles O46: the checks pass, and source and destination have one shape, so that byte k of both has one triple of
coordinates. -/
theorem lutApplyMapsEveryByte : Obligations.LutApplyMapsEveryByte := by
  intro s hlegal hloaded
  obtain ⟨t, hexec, hsamples, hrest⟩ :=
    exec_of_effect_eq_writeBuffer ((validate_lutApply_none s).mpr ⟨hlegal, hloaded⟩) rfl
  refine ⟨t, hexec, fun k hk => ?_, hrest⟩
  obtain ⟨hx, hy, hc, -⟩ := offset_of_coords hk
  have hsource : s.source.addr _ _ _ = s.srcBase.toNat + k := addr_of_offset (d := s.source) hk
  have hdestination : s.applyDestination.addr _ _ _ = s.dstBase.toNat + k := addr_of_offset (d := s.applyDestination) hk
  rw [← hdestination, ← hsource]
  exact hsamples _ _ _ hx hy hc

/-- Settles O54: neither LUT.APPLY changes the table of LUT.NEG, so every byte is mapped twice by an involution. -/
theorem negatingTwiceRestoresTheBuffer : Obligations.NegatingTwiceRestoresTheBuffer := by
  intro s d2 hlegal
  have hvalidate : validate .lutNeg s = none := validate_total_none s (by decide)
  refine ⟨(s.buildLut negEntry).completeOk, exec_of_ok hvalidate, ?_⟩
  obtain ⟨t2, hexec2, hbytes2, -, hframe2⟩ :=
    lutApplyMapsEveryByte (s.buildLut negEntry).completeOk hlegal (tableLoaded_buildLut s negEntry)
  refine ⟨t2, hexec2, fun hlegal2 => ?_⟩
  have hloaded2 : TableLoaded t2 := hframe2 ▸ tableLoaded_buildLut s negEntry
  have hentry2 (b : Byte) : t2.lutAt b = negEntry b.toNat := hframe2 ▸ lutAt_buildLut s negEntry b
  have hsize2 : sourceSize t2 = sourceSize s := hframe2 ▸ rfl
  obtain ⟨t3, hexec3, hbytes3, -⟩ := lutApplyMapsEveryByte _ hlegal2 hloaded2
  refine ⟨t3, hexec3, fun k hk => ?_⟩
  calc t3.readPix (d2.toNat + k)
      = t2.lutAt (t2.readPix (s.dstBase.toNat + k)) := hbytes3 k (hk.trans_eq hsize2.symm)
    _ = t2.lutAt ((s.buildLut negEntry).lutAt (s.readPix (s.srcBase.toNat + k))) := congrArg t2.lutAt (hbytes2 k hk)
    _ = s.readPix (s.srcBase.toNat + k) := by rw [hentry2, lutAt_buildLut, negEntry_involutive]

end Sys2Proof.Proofs
end

section
/-! SUPPORT. The samples of the two resampling commands (spec/45_resampler.md): the nearest index (R251, R252), the axis
decomposition (R254, R255) and the accumulator of the bilinear samples (R257 to R259). -/

namespace Sys2Proof.Machine

open Sys2Proof.Safety

/-! ### The nearest index (R251, R252) -/

/-- A whole number of d-ths is not rounded. -/
theorem rhu_mul_self {d : Nat} (hd : 0 < d) (v : Nat) : rhu (v * d) d = v :=
  Nat.div_eq_of_lt_le (by linarith) (by linarith)

/-- The division of R251 is the half-up rounding of `i*N/ON`, never negative, so that only the upper clamp can act. -/
theorem nsrc_eq_min (i : Nat) {n : Nat} (out : Nat) (hn : 1 ≤ n) : nsrc i n out = min (rhu (i * n) out) (n - 1) := by
  have hdiv : fdiv (2 * i * n + out) (2 * out) = (rhu (i * n) out : ℤ) := by
    unfold fdiv rhu
    push_cast
    rw [mul_assoc]
  rw [nsrc, hdiv, clamp]
  split_ifs <;> omega

theorem nsrc_eq_nearestIndex (i : Nat) {n out : Nat} (hn : 1 ≤ n) (hout : 0 < out) :
    nsrc i n out = nearestIndex i n out := by
  have hround := rhu_eq_floor hout (i * n)
  push_cast at hround
  rw [nsrc_eq_min i out hn, nearestIndex, ← mul_div_assoc, ← hround, Int.toNat_natCast]

/-- Where the position `i*N/ON` is the index of a sample, that is the nearest index. -/
theorem nsrc_of_exact {i n out v : Nat} (hout : 0 < out) (hv : v < n) (h : i * n = v * out) : nsrc i n out = v := by
  rw [nsrc_eq_min i out (by omega), h, rhu_mul_self hout]
  omega

theorem nsrc_same_size {i n : Nat} (hi : i < n) : nsrc i n n = i := nsrc_of_exact (by omega) hi rfl

theorem nsrc_double {i n : Nat} (hi : i < n) : nsrc (2 * i) n (2 * n) = i := nsrc_of_exact (by omega) hi (by ring)

theorem nsrc_half {i n : Nat} (hi : i < n) : nsrc i (2 * n) n = 2 * i := nsrc_of_exact (by omega) (by omega) (by ring)

theorem nearestSample_of_nsrc {s : State} {ow oh x y x' y' : Nat} (hx : nsrc x s.srcW.toNat ow = x')
    (hy : nsrc y s.srcH.toNat oh = y') (ch : Nat) :
    nearestSample s ow oh x y ch = s.readPix (s.source.addr x' y' ch) := by
  rw [← hx, ← hy]
  rfl

/-! ### The axis decomposition (R254, R255) -/

theorem axis_dn (i n out : Nat) : (axis i n out).dn = 2 * out := rfl

section
variable {out : Nat} (hout : 0 < out) (i n : Nat)
include hout

theorem axis_a_cast : ((axis i n out).a : ℤ) = ((2 * i + 1) * n - out) % (2 * out) := by
  rw [axis, fmod, fdiv, ← Int.emod_def, Int.toNat_of_nonneg (Int.emod_nonneg _ (by omega))]

theorem axis_a_lt_dn : (axis i n out).a < (axis i n out).dn := by
  have h := Int.emod_lt_of_pos ((2 * i + 1) * n - out) (b := 2 * out) (by omega)
  rw [← axis_a_cast hout] at h
  rw [axis_dn]
  exact_mod_cast h

/-- The decomposition is a division with remainder of `Nn` by `Dn`. -/
theorem axis_numerator : ((2 * i + 1) * n - out : ℤ) = 2 * out * (axis i n out).i0 + (axis i n out).a := by
  rw [axis_a_cast hout]
  exact (Int.mul_ediv_add_emod _ _).symm

theorem axisPosition_eq_div : axisPosition i n out = (((2 * i + 1) * n - out : ℤ) : ℚ) / (2 * out : ℕ) := by
  have hne : (out : ℚ) ≠ 0 := Nat.cast_ne_zero.mpr hout.ne'
  unfold axisPosition
  push_cast
  field_simp

theorem axis_i0_eq_floor : (axis i n out).i0 = ⌊axisPosition i n out⌋ := by
  rw [axisPosition_eq_div hout, Rat.floor_intCast_div_natCast]
  rfl

/-- The weight of the second neighbour is the fractional part of the position. -/
theorem axis_weight :
    ((axis i n out).a : ℚ) / (axis i n out).dn = axisPosition i n out - ⌊axisPosition i n out⌋ := by
  have hne : (out : ℚ) ≠ 0 := Nat.cast_ne_zero.mpr hout.ne'
  rw [← axis_i0_eq_floor hout, axisPosition_eq_div hout, axis_numerator hout, axis_dn]
  push_cast
  field_simp
  ring

end

/-- The first neighbour lies in -1..N-1, since `-ON <= Nn < N*Dn`. -/
theorem axis_i0_range {i n out : Nat} (hi : i < out) (hn : 1 ≤ n) :
    -1 ≤ (axis i n out).i0 ∧ (axis i n out).i0 ≤ n - 1 := by
  have hpos : (0 : ℤ) < 2 * out := by omega
  have hlower : (0 : ℤ) ≤ (2 * i + 1) * n := by positivity
  have hupper : ((2 * i + 1) * n : ℤ) ≤ (2 * out - 1) * n := Int.mul_le_mul_of_nonneg_right (by omega) (by omega)
  constructor
  · exact (Int.le_ediv_iff_mul_le hpos).mpr (by linarith)
  · exact Int.le_sub_one_of_lt ((Int.ediv_lt_iff_lt_mul hpos).mpr (by linarith))

/-- On an axis whose size does not change every position is the index of a sample. -/
theorem axis_same_size {i n : Nat} (hn : 0 < n) : axis i n n = ⟨i, 0, 2 * n⟩ := by
  have hnumerator : ((2 * i + 1) * n - n : ℤ) = 2 * n * i := by ring
  have hi0 : (axis i n n).i0 = i := by
    rw [axis, fdiv, hnumerator, Int.mul_ediv_cancel_left _ (by omega)]
  have ha : (axis i n n).a = 0 := by
    have h := axis_numerator hn i n
    rw [hi0, hnumerator] at h
    omega
  rw [← hi0, ← ha, ← axis_dn i n n]

/-! ### The accumulator (R257 to R259) -/

section
variable {ax ay : Axis} (hx : ax.a < ax.dn) (hy : ay.a < ay.dn)
include hx hy

/-- The accumulator over its denominator is the source's interpolation along x and then along y. -/
theorem bilinearAcc_div (i00 i10 i01 i11 : Nat) :
    (bilinearAcc ax ay i00 i10 i01 i11 : ℚ) / (ax.dn * ay.dn : ℕ) =
      (1 - (ay.a : ℚ) / ay.dn) * ((1 - (ax.a : ℚ) / ax.dn) * i00 + ax.a / ax.dn * i10) +
        ay.a / ay.dn * ((1 - (ax.a : ℚ) / ax.dn) * i01 + ax.a / ax.dn * i11) := by
  have hdx : (ax.dn : ℚ) ≠ 0 := Nat.cast_ne_zero.mpr (by omega)
  have hdy : (ay.dn : ℚ) ≠ 0 := Nat.cast_ne_zero.mpr (by omega)
  unfold bilinearAcc
  push_cast [hx.le, hy.le]
  field_simp
  ring

/-- The four weights add up to the denominator. -/
theorem bilinearAcc_constant (v : Nat) : bilinearAcc ax ay v v v v = v * (ax.dn * ay.dn) := by
  obtain ⟨rx, hrx⟩ := Nat.exists_eq_add_of_le hx.le
  obtain ⟨ry, hry⟩ := Nat.exists_eq_add_of_le hy.le
  rw [bilinearAcc, hrx, hry, Nat.add_sub_cancel_left, Nat.add_sub_cancel_left]
  ring

end

theorem bilinearAcc_mono (ax ay : Axis) {i00 i10 i01 i11 j00 j10 j01 j11 : Nat} (h00 : i00 ≤ j00) (h10 : i10 ≤ j10)
    (h01 : i01 ≤ j01) (h11 : i11 ≤ j11) : bilinearAcc ax ay i00 i10 i01 i11 ≤ bilinearAcc ax ay j00 j10 j01 j11 := by
  unfold bilinearAcc
  gcongr

/-- At the index of a sample only that sample has a weight. -/
theorem bilinearAcc_of_exact (i j : ℤ) (dx dy i00 i10 i01 i11 : Nat) :
    bilinearAcc ⟨i, 0, dx⟩ ⟨j, 0, dy⟩ i00 i10 i01 i11 = i00 * (dx * dy) := by
  simp [bilinearAcc, Nat.mul_comm]

/-! ### The bilinear sample (R257) -/

theorem clampedAt_toNat {s : State} (h : SourceLegal s) (x y : ℤ) (ch : Nat) :
    (s.clampedAt s.source x y ch).toNat = edgeSample s x y ch := by
  obtain ⟨hw, hh, -⟩ := h
  rw [edgeSample, ← clamp_toNat_eq_edge x hw, ← clamp_toNat_eq_edge y hh]
  rfl

theorem edgeSample_le (s : State) (x y : ℤ) (ch : Nat) : edgeSample s x y ch ≤ 255 :=
  Nat.le_of_lt_succ (BitVec.isLt _)

theorem edge_of_lt {i n : Nat} (h : i < n) : edge i n = i := by
  unfold edge
  omega

/-- The horizontal decomposition of an output column in the registers of a state. -/
def State.axisX (s : State) (x : Nat) : Axis := axis x s.srcW.toNat s.dstW.toNat

/-- The vertical decomposition of an output row. -/
def State.axisY (s : State) (y : Nat) : Axis := axis y s.srcH.toNat s.dstH.toNat

/-- The accumulator of the output sample at (x, y, ch), its four samples edge-replicated (R192, R257). -/
def State.sampleAcc (s : State) (x y ch : Nat) : Nat :=
  bilinearAcc (s.axisX x) (s.axisY y) (edgeSample s (s.axisX x).i0 (s.axisY y).i0 ch)
    (edgeSample s ((s.axisX x).i0 + 1) (s.axisY y).i0 ch) (edgeSample s (s.axisX x).i0 ((s.axisY y).i0 + 1) ch)
    (edgeSample s ((s.axisX x).i0 + 1) ((s.axisY y).i0 + 1) ch)

/-- `D`, the denominator of the accumulator of the output sample at (x, y). -/
def State.sampleDen (s : State) (x y : Nat) : Nat := (s.axisX x).dn * (s.axisY y).dn

section
variable {s : State} (htarget : TargetLegal s) (x y ch : Nat)
include htarget

theorem sampleDen_pos : 0 < s.sampleDen x y := by
  obtain ⟨hw, hh⟩ := htarget
  exact Nat.mul_pos (Nat.mul_pos two_pos hw) (Nat.mul_pos two_pos hh)

/-- The rounded accumulator lies within any bounds of the four samples (R259). -/
theorem rhu_sampleAcc_bounds {lo hi : Nat}
    (h : ∀ dx dy : ℤ, (dx = 0 ∨ dx = 1) → (dy = 0 ∨ dy = 1) →
      lo ≤ edgeSample s ((s.axisX x).i0 + dx) ((s.axisY y).i0 + dy) ch ∧
        edgeSample s ((s.axisX x).i0 + dx) ((s.axisY y).i0 + dy) ch ≤ hi) :
    lo ≤ rhu (s.sampleAcc x y ch) (s.sampleDen x y) ∧ rhu (s.sampleAcc x y ch) (s.sampleDen x y) ≤ hi := by
  have hpos := sampleDen_pos htarget x y
  obtain ⟨hw, hh⟩ := htarget
  have hconstant (v : Nat) : bilinearAcc (s.axisX x) (s.axisY y) v v v v = v * s.sampleDen x y :=
    bilinearAcc_constant (axis_a_lt_dn hw _ _) (axis_a_lt_dn hh _ _) v
  have h00 := h 0 0 (.inl rfl) (.inl rfl)
  have h10 := h 1 0 (.inr rfl) (.inl rfl)
  have h01 := h 0 1 (.inl rfl) (.inr rfl)
  have h11 := h 1 1 (.inr rfl) (.inr rfl)
  rw [Int.add_zero, Int.add_zero] at h00
  rw [Int.add_zero] at h10 h01
  constructor
  · rw [← rhu_mul_self hpos lo, ← hconstant]
    exact rhu_mono _ (bilinearAcc_mono _ _ h00.1 h10.1 h01.1 h11.1)
  · rw [← rhu_mul_self hpos hi, ← hconstant]
    exact rhu_mono _ (bilinearAcc_mono _ _ h00.2 h10.2 h01.2 h11.2)

/-- The clamp to 0..255 never acts, and the accumulator is rounded once. -/
theorem bilinearSample_toNat (hsource : SourceLegal s) :
    (bilinearSample s s.dstW.toNat s.dstH.toNat x y ch).toNat = rhu (s.sampleAcc x y ch) (s.sampleDen x y) := by
  have hbyte : rhu (s.sampleAcc x y ch) (s.sampleDen x y) ≤ 255 :=
    (rhu_sampleAcc_bounds htarget x y ch (lo := 0) fun _ _ _ _ => ⟨Nat.zero_le _, edgeSample_le s _ _ _⟩).2
  have hround : bilinearRound (s.axisX x) (s.axisY y) (s.sampleAcc x y ch) =
      rhu (s.sampleAcc x y ch) (s.sampleDen x y) := by
    show (clamp (rhu (s.sampleAcc x y ch) (s.sampleDen x y)) 0 255).toNat = _
    unfold clamp
    split_ifs <;> omega
  simp only [bilinearSample, clampedAt_toNat hsource, BitVec.toNat_ofNat]
  exact (congrArg (· % 2 ^ 8) hround).trans (Nat.mod_eq_of_lt (Nat.lt_succ_of_le hbyte))

/-- The accumulator is the exact value of R257. -/
theorem sampleAcc_div : (s.sampleAcc x y ch : ℚ) / s.sampleDen x y = bilinearValue s x y ch := by
  obtain ⟨hw, hh⟩ := htarget
  rw [State.sampleAcc, State.sampleDen, State.axisX, State.axisY,
    bilinearAcc_div (axis_a_lt_dn hw _ _) (axis_a_lt_dn hh _ _), axis_weight hw, axis_weight hh, axis_i0_eq_floor hw,
    axis_i0_eq_floor hh, bilinearValue]

theorem bilinearSample_eq_floor (hsource : SourceLegal s) :
    ((bilinearSample s s.dstW.toNat s.dstH.toNat x y ch).toNat : ℤ) = ⌊bilinearValue s x y ch + 1 / 2⌋ := by
  rw [bilinearSample_toNat htarget x y ch hsource, rhu_eq_floor (sampleDen_pos htarget x y), sampleAcc_div htarget]

end

/-! ### Buffers of one shape (R191) -/

/-- Buffers of one shape whose samples agree agree byte by byte. -/
theorem readPix_offset_of_samples {s t : State} {d : Desc} {b : Nat}
    (h : ∀ x y ch, x < d.w → y < d.h → ch < d.c →
      t.readPix ({ d with base := b }.addr x y ch) = s.readPix (d.addr x y ch)) {k : Nat} (hk : k < d.size) :
    t.readPix (b + k) = s.readPix (d.base + k) := by
  obtain ⟨hx, hy, hc, -⟩ := offset_of_coords hk
  rw [← addr_of_offset hk, ← addr_of_offset (d := { d with base := b }) hk]
  exact h _ _ _ hx hy hc

/-! ### Resampling to the same size (R252, R259) -/

/-- A resampling command whose samples are those of the source at the same coordinates copies the source. -/
theorem exec_copies_of_same_size {i : Instr} {s : State} {f : Nat → Nat → Nat → Byte} (hw : s.dstW = s.srcW)
    (hh : s.dstH = s.srcH) (hv : validate i s = none)
    (heffect : effect i s = (s.writeBuffer s.resampleDestination f).setOut s.dstW s.dstH s.srcC)
    (hf : ∀ x y ch, x < s.srcW.toNat → y < s.srcH.toNat → f x y ch = s.readPix (s.source.addr x y ch)) :
    ∃ t, exec i s = .next t ∧
      ∀ k, k < sourceSize s → t.readPix (s.dstBase.toNat + k) = s.readPix (s.srcBase.toNat + k) := by
  have hd : s.resampleDestination = { s.source with base := s.dstBase.toNat } := by
    rw [State.resampleDestination, hw, hh]
    rfl
  obtain ⟨t, hexec, hsamples, -⟩ := exec_of_effect_eq_writeBuffer hv heffect
  rw [hd] at hsamples
  exact ⟨t, hexec, fun k => readPix_offset_of_samples (d := s.source) fun x y ch hx hy hc =>
    (hsamples x y ch hx hy hc).trans (hf x y ch hx hy)⟩

section
variable {s : State} (hw : s.dstW = s.srcW) (hh : s.dstH = s.srcH) {x y : Nat} (hx : x < s.srcW.toNat)
  (hy : y < s.srcH.toNat) (ch : Nat)
include hw hh hx hy

theorem nearestSample_same_size :
    nearestSample s s.dstW.toNat s.dstH.toNat x y ch = s.readPix (s.source.addr x y ch) :=
  nearestSample_of_nsrc (by rw [hw, nsrc_same_size hx]) (by rw [hh, nsrc_same_size hy]) ch

theorem bilinearSample_same_size (htarget : TargetLegal s) (hsource : SourceLegal s) :
    bilinearSample s s.dstW.toNat s.dstH.toNat x y ch = s.readPix (s.source.addr x y ch) := by
  have hax : s.axisX x = ⟨x, 0, 2 * s.srcW.toNat⟩ := by
    rw [State.axisX, hw, axis_same_size (by omega)]
  have hay : s.axisY y = ⟨y, 0, 2 * s.srcH.toNat⟩ := by
    rw [State.axisY, hh, axis_same_size (by omega)]
  have hacc : s.sampleAcc x y ch = edgeSample s x y ch * s.sampleDen x y := by
    rw [State.sampleAcc, State.sampleDen, hax, hay, bilinearAcc_of_exact]
  apply BitVec.eq_of_toNat_eq
  rw [bilinearSample_toNat htarget x y ch hsource, hacc, rhu_mul_self (sampleDen_pos htarget x y), edgeSample,
    edge_of_lt hx, edge_of_lt hy]
  rfl

end

/-! ### Resampling to twice and to half the size (R251, R253) -/

theorem nearestSample_double {s : State} {ow oh x y : Nat} (hw : ow = 2 * s.srcW.toNat) (hh : oh = 2 * s.srcH.toNat)
    (hx : x < s.srcW.toNat) (hy : y < s.srcH.toNat) (ch : Nat) :
    nearestSample s ow oh (2 * x) (2 * y) ch = s.readPix (s.source.addr x y ch) :=
  nearestSample_of_nsrc (hw ▸ nsrc_double hx) (hh ▸ nsrc_double hy) ch

theorem nearestSample_half {s : State} {ow oh x y : Nat} (hw : s.srcW.toNat = 2 * ow) (hh : s.srcH.toNat = 2 * oh)
    (hx : x < ow) (hy : y < oh) (ch : Nat) :
    nearestSample s ow oh x y ch = s.readPix (s.source.addr (2 * x) (2 * y) ch) :=
  nearestSample_of_nsrc (hw ▸ nsrc_half hx) (hh ▸ nsrc_half hy) ch

end Sys2Proof.Machine
end

section
/-! The statements about the bilinear_resampler of spec/45_resampler.md. -/

namespace Sys2Proof.Proofs

open Sys2Proof.Machine Sys2Proof.Safety

/-- Settles O49: the checks pass, and the index that RS.NEAREST computes is the nearest one of R251 on both axes. -/
theorem nearestCopiesTheNearestPixel : Obligations.NearestCopiesTheNearestPixel := by
  intro s hlegal htarget
  obtain ⟨t, hexec, hsamples, hrest⟩ :=
    exec_of_effect_eq_writeBuffer ((validate_resample_none s (.inl rfl)).mpr ⟨hlegal, htarget⟩) rfl
  obtain ⟨⟨hw, hh, -⟩, -⟩ := hlegal
  refine ⟨t, hexec, fun x y ch hx hy hc => ?_, hrest⟩
  rw [← nsrc_eq_nearestIndex x hw htarget.1, ← nsrc_eq_nearestIndex y hh htarget.2]
  exact hsamples x y ch hx hy hc

/-- Settles O50: the checks pass, and each sample is the accumulator over its denominator, the exact value of R257, rounded
once. -/
theorem bilinearMatchesTheRationalFormula : Obligations.BilinearMatchesTheRationalFormula := by
  intro s hlegal htarget
  obtain ⟨t, hexec, hsamples, hrest⟩ :=
    exec_of_effect_eq_writeBuffer ((validate_resample_none s (.inr rfl)).mpr ⟨hlegal, htarget⟩) rfl
  refine ⟨t, hexec, fun x y ch hx hy hc => ?_, hrest⟩
  rw [← bilinearSample_eq_floor htarget x y ch hlegal.1]
  exact congrArg (fun b : Byte => (b.toNat : ℤ)) (hsamples x y ch hx hy hc)

/-- Settles O51: the accumulator is monotone in its samples and exact on four equal ones, and rounding keeps both. -/
theorem bilinearStaysWithinItsSamples : Obligations.BilinearStaysWithinItsSamples := by
  intro s t x y ch lo hi hlegal htarget hexec hx hy hc hbounds
  obtain ⟨t', hexec', hsamples, -⟩ :=
    exec_of_effect_eq_writeBuffer ((validate_resample_none s (.inr rfl)).mpr ⟨hlegal, htarget⟩) rfl
  obtain rfl : t' = t := by injection hexec'.symm.trans hexec
  have hsample : t'.readPix (s.dstBase.toNat + (y * s.dstW.toNat + x) * s.srcC.toNat + ch) =
      bilinearSample s s.dstW.toNat s.dstH.toNat x y ch := hsamples x y ch hx hy hc
  rw [hsample, bilinearSample_toNat htarget x y ch hlegal.1]
  rw [← axis_i0_eq_floor htarget.1, ← axis_i0_eq_floor htarget.2] at hbounds
  exact rhu_sampleAcc_bounds htarget x y ch hbounds

/-- Settles O52: by either command, since on an axis whose size does not change every output index falls on the sample of
the same index. -/
theorem resamplingToTheSameSizeIsTheIdentity : Obligations.ResamplingToTheSameSizeIsTheIdentity := by
  intro i s hi hlegal htarget hw hh
  simp only [List.mem_cons, List.not_mem_nil, or_false] at hi
  have hv : validate i s = none := (validate_resample_none s hi).mpr ⟨hlegal, htarget⟩
  rcases hi with rfl | rfl
  · exact exec_copies_of_same_size hw hh hv rfl fun x y ch hx hy => nearestSample_same_size hw hh hx hy ch
  · exact exec_copies_of_same_size hw hh hv rfl fun x y ch hx hy =>
      bilinearSample_same_size hw hh hx hy ch htarget hlegal.1

/-- Settles O53: the range of the first neighbour gives that of the second, and the clamp acts only outside 0..N-1. -/
theorem axisNeighbourRange : Obligations.AxisNeighbourRange := by
  intro i n out hi hn
  obtain ⟨hlower, hupper⟩ := axis_i0_range hi hn
  refine ⟨axis_a_lt_dn (by omega) i n, hlower, hupper, by omega, by omega, ?_⟩
  unfold clamp
  refine ⟨?_, ?_, ?_⟩ <;> split_ifs <;> omega

/-- Settles O55: the sample of index i is copied to the index 2*i of the doubled axis, and halving takes it from there. -/
theorem nearestDoublingThenHalvingRestores : Obligations.NearestDoublingThenHalvingRestores := by
  intro s d2 hlegal hdw hdh
  obtain ⟨hw, hh, -⟩ := hlegal.1
  obtain ⟨t1, hexec1, hsamples1, -, hframe1⟩ := exec_of_effect_eq_writeBuffer
    ((validate_resample_none s (.inl rfl)).mpr ⟨hlegal, by omega, by omega⟩) rfl
  obtain ⟨m, rfl⟩ : ∃ m, t1 = produced s m s.dstW s.dstH s.srcC := ⟨_, hframe1⟩
  refine ⟨_, hexec1, fun hlegal2 => ?_⟩
  obtain ⟨t2, hexec2, hsamples2, -⟩ := exec_of_effect_eq_writeBuffer
    ((validate_resample_none _ (.inl rfl)).mpr ⟨hlegal2, hw, hh⟩) rfl
  refine ⟨t2, hexec2, fun k => readPix_offset_of_samples (d := s.source) fun x y ch hx hy hc => ?_⟩
  have hx2 : 2 * x < s.dstW.toNat := hdw ▸ Nat.mul_lt_mul_of_pos_left hx two_pos
  have hy2 : 2 * y < s.dstH.toNat := hdh ▸ Nat.mul_lt_mul_of_pos_left hy two_pos
  calc t2.readPix ({ s.source with base := d2.toNat }.addr x y ch)
      = nearestSample _ s.srcW.toNat s.srcH.toNat x y ch := hsamples2 x y ch hx hy hc
    _ = (produced s m s.dstW s.dstH s.srcC).readPix (s.resampleDestination.addr (2 * x) (2 * y) ch) :=
      nearestSample_half hdw hdh hx hy ch
    _ = nearestSample s s.dstW.toNat s.dstH.toNat (2 * x) (2 * y) ch := hsamples1 _ _ ch hx2 hy2 hc
    _ = s.readPix (s.source.addr x y ch) := nearestSample_double hdw hdh hx hy ch

end Sys2Proof.Proofs
end

section
/-! SUPPORT. For each error of R282 a state in which every command marked for it raises it, and that every step answers a
next state (spec/60_exceptions.md R282, R284, R288). -/

namespace Sys2Proof.Machine

open Sys2Proof.Safety

variable {i : Instr} {e : CmdError}

/-! ### Which commands the table marks (R282) -/

/-- An error is marked only for the commands that read the source descriptor. -/
theorem usesSource_of_mayRaise (h : mayRaise i e = true) : usesSource i = true := by
  cases i with
  | nop | lutNeg | lutLog | lutGamma => cases e <;> cases h
  | lutApply | gray | rsNearest | rsBilinear | addrRaw | addrClamp => rfl

theorem usesTargetDims_of_mayRaise {f : DimField} (hf : f = .dstW ∨ f = .dstH)
    (h : mayRaise i (.invalidDimension f) = true) : usesTargetDims i = true := by
  revert h
  obtain rfl | rfl := hf <;> cases i <;> decide

theorem lutApply_of_mayRaise {k : Nat} (h : mayRaise i (.lutNotLoaded k) = true) : i = .lutApply ∧ k < 256 := by
  cases i with
  | lutApply => exact ⟨rfl, of_decide_eq_true h⟩
  | nop | lutNeg | lutLog | lutGamma | gray | rsNearest | rsBilinear | addrRaw | addrClamp => cases h

theorem writesBuffer_of_mayRaise (he : e = .regionOverflow .destination ∨ e = .aliased) (h : mayRaise i e = true) :
    writesBuffer i = true := by
  revert h
  obtain rfl | rfl := he <;> cases i <;> decide

/-- X and Y are checked by ADDR.RAW alone, the channel by both ADDR commands. -/
theorem addr_of_mayRaise {c : Coordinate} (h : mayRaise i (.addrRange c) = true) :
    i = .addrRaw ∨ i = .addrClamp ∧ c = .channel := by
  revert h
  cases i <;> cases c <;> decide

/-! ### A state for each error -/

/-- A pixel memory of one byte, which is both the source and the destination, with the table loaded: V2 to V6 pass. -/
def onePixel : State :=
  { State.powerOn { lastOffset := 0, initPix := [], initLut := Vector.replicate 256 0 } with
    srcW := 1, srcH := 1, srcC := 1, dstW := 1, dstH := 1, lutValid := allValid }

/-- `onePixel` with the one field changed that makes a check fail with the error. No check raises UNKNOWN_OPERATION, which
comes of the word alone (V1). -/
def stateRaising : CmdError → State
  | .invalidDimension .srcW => { onePixel with srcW := 0 }
  | .invalidDimension .srcH => { onePixel with srcH := 0 }
  | .invalidDimension .srcC => { onePixel with srcC := 2 }
  | .invalidDimension .dstW => { onePixel with dstW := 0 }
  | .invalidDimension .dstH => { onePixel with dstH := 0 }
  | .unknownOperation word => { onePixel with cmdLast := word }
  | .lutNotLoaded k => { onePixel with lutValid := allValid.setIfInBounds k false }
  | .regionOverflow .source => { onePixel with srcBase := 1 }
  | .regionOverflow .destination => { onePixel with dstBase := 1 }
  | .aliased => onePixel
  | .addrRange .x => { onePixel with pbaX := 1 }
  | .addrRange .y => { onePixel with pbaY := 1 }
  | .addrRange .channel => { onePixel with pbaCh := 1 }

theorem sourceLegal_onePixel : SourceLegal onePixel := ⟨by decide, by decide, .inl rfl⟩

theorem targetLegal_onePixel : TargetLegal onePixel := ⟨by decide, by decide⟩

theorem tableLoaded_onePixel : TableLoaded onePixel := fun _ h => Vector.getElem_replicate h

theorem sourceFits_onePixel : SourceFits onePixel := le_refl 1

theorem dimensionsLegal_of_legal {s : State} (hs : SourceLegal s) (ht : TargetLegal s) (hl : TableLoaded s) :
    DimensionsLegal s i := dimensionsLegal_iff.mpr ⟨fun _ => hs, fun _ => ht, fun _ => hl⟩

theorem dimensionsLegal_onePixel : DimensionsLegal onePixel i :=
  dimensionsLegal_of_legal sourceLegal_onePixel targetLegal_onePixel tableLoaded_onePixel

/-! ### The check that fails -/

theorem validate_stateRaising_invalidDimension {f : DimField} (h : mayRaise i (.invalidDimension f) = true) :
    validate i (stateRaising (.invalidDimension f)) = some (.invalidDimension f) := by
  have hi := usesSource_of_mayRaise h
  cases f with
  | srcW => exact validate_of_checkSourceDims hi (checkSourceDims_srcW rfl)
  | srcH => exact validate_of_checkSourceDims hi (checkSourceDims_srcH (by decide) rfl)
  | srcC => exact validate_of_checkSourceDims hi (checkSourceDims_srcC (by decide) (by decide) (by decide) (by decide))
  | dstW =>
    exact validate_of_checkTargetDims (usesTargetDims_of_mayRaise (.inl rfl) h) sourceLegal_onePixel
      (checkTargetDims_dstW rfl)
  | dstH =>
    exact validate_of_checkTargetDims (usesTargetDims_of_mayRaise (.inr rfl) h) sourceLegal_onePixel
      (checkTargetDims_dstH (by decide) rfl)

theorem validate_stateRaising_lutNotLoaded {k : Nat} (hk : k < 256) :
    validate .lutApply (stateRaising (.lutNotLoaded k)) = some (.lutNotLoaded k) := by
  have hsource : SourceLegal (stateRaising (.lutNotLoaded k)) := ⟨le_refl 1, le_refl 1, .inl rfl⟩
  refine validate_lutApply_of_checkTable hsource (checkTable_lowest hk ?_ fun j hj => ?_)
  · exact Vector.getElem_setIfInBounds_self hk
  · have hj256 : j < 256 := hj.trans hk
    exact (Vector.getElem_setIfInBounds_ne hj256 hj.ne').trans (tableLoaded_onePixel j hj256)

theorem validate_stateRaising_regionOverflow {r : Region} (h : mayRaise i (.regionOverflow r) = true) :
    validate i (stateRaising (.regionOverflow r)) = some (.regionOverflow r) := by
  have hdims : DimensionsLegal (stateRaising (.regionOverflow r)) i := by
    cases r <;> exact dimensionsLegal_of_legal sourceLegal_onePixel targetLegal_onePixel tableLoaded_onePixel
  cases r with
  | source =>
    have hsource : ¬SourceFits (stateRaising (.regionOverflow .source)) := Nat.not_succ_le_self 1
    exact validate_of_not_sourceFits hdims (usesSource_of_mayRaise h) hsource
  | destination =>
    have hi := writesBuffer_of_mayRaise (.inl rfl) h
    have hpos := destinationSize_pos hi hdims
    have hdestination : ¬DestinationFits (stateRaising (.regionOverflow .destination))
        (destinationSize (stateRaising (.regionOverflow .destination)) i) := by
      change ¬1 + _ ≤ 1
      omega
    exact validate_of_not_destinationFits hdims hi sourceFits_onePixel hdestination

/-- The source and the destination of `onePixel` are the same byte. -/
theorem validate_stateRaising_aliased (h : mayRaise i .aliased = true) :
    validate i (stateRaising .aliased) = some .aliased := by
  have hi := writesBuffer_of_mayRaise (.inr rfl) h
  have hdestination : DestinationFits onePixel (destinationSize onePixel i) := by
    unfold DestinationFits
    cases i <;> decide
  exact validate_of_not_regionsDisjoint dimensionsLegal_onePixel hi sourceFits_onePixel hdestination
    (not_regionsDisjoint_of_base_eq dimensionsLegal_onePixel hi rfl)

theorem validate_stateRaising_addrRange {c : Coordinate} (h : mayRaise i (.addrRange c) = true) :
    validate i (stateRaising (.addrRange c)) = some (.addrRange c) := by
  have hcheck (hi : i ∈ [.addrRaw, .addrClamp]) :
      validate i (stateRaising (.addrRange c)) = checkCoordinates i (stateRaising (.addrRange c)) := by
    cases c <;> exact validate_addr_eq_checkCoordinates hi sourceLegal_onePixel sourceFits_onePixel
  obtain rfl | ⟨rfl, rfl⟩ := addr_of_mayRaise h
  · rw [hcheck (by decide)]
    cases c <;> decide
  · rw [hcheck (by decide)]
    exact checkClampCoordinates_channel le_rfl

/-- Every error marked for a command is what its checks answer in the state for that error (R282). -/
theorem validate_stateRaising (h : mayRaise i e = true) : validate i (stateRaising e) = some e := by
  cases e with
  | invalidDimension f => exact validate_stateRaising_invalidDimension h
  | unknownOperation word => cases i <;> cases h
  | lutNotLoaded k =>
    obtain ⟨rfl, hk⟩ := lutApply_of_mayRaise h
    exact validate_stateRaising_lutNotLoaded hk
  | regionOverflow r => exact validate_stateRaising_regionOverflow h
  | aliased => exact validate_stateRaising_aliased h
  | addrRange c => exact validate_stateRaising_addrRange h

/-! ### Every step answers a next state -/

theorem exists_completeStep_next (s : State) : ∃ t, completeStep s = .next t :=
  (completeStep_counts s).imp fun _ h => h.1

/-- A turn of the engine's completes the command of a busy block and passes an idle one by. -/
theorem exists_completeStep_or_next (b : Bool) (s u : State) :
    ∃ t, (if b then completeStep s else .next u) = .next t := by
  cases b with
  | false => exact ⟨u, rfl⟩
  | true => exact exists_completeStep_next s

theorem exists_takeTurn_next (s : State) : ∃ t, takeTurn s = .next t := by
  unfold takeTurn
  cases s.turns with
  | nil => exact exists_completeStep_or_next _ _ _
  | cons u ts =>
    cases u with
    | host r => exact ⟨_, rfl⟩
    | engine => exact exists_completeStep_or_next _ _ _
    | statusWriteAtCompletion d => exact exists_completeStep_or_next _ _ _
    | hardReset => exact ⟨_, rfl⟩

theorem exists_step_next (s : State) : ∃ t, step s = .next t := by
  by_cases hreset : ∃ ts, s.turns = .hardReset :: ts
  · obtain ⟨ts, hts⟩ := hreset
    exact ⟨_, step_hardReset hts⟩
  · have hn := not_exists.mp hreset
    cases hheld : s.held with
    | none =>
      rw [step_takeTurn hheld hn]
      exact exists_takeTurn_next s
    | some r =>
      cases hb : s.busy with
      | false => exact ⟨_, step_held_idle hheld hb hn⟩
      | true =>
        rw [step_held_busy hheld hb hn]
        exact exists_completeStep_next _

end Sys2Proof.Machine
end

section
/-! The statements about the exceptions of spec/60_exceptions.md. -/

namespace Sys2Proof.Proofs

open Sys2Proof.Machine Sys2Proof.Safety

/-- Settles O34: each check raises only what the table marks for its commands, and for each marked error one field of a
one-byte machine makes that check the first to fail. -/
theorem errorsEachCommandCanRaise : Obligations.ErrorsEachCommandCanRaise :=
  ⟨fun _ _ _ => validate_mayRaise,
    fun _ e h => ⟨stateRaising e, validate_stateRaising h, exec_eq_failed (validate_stateRaising h)⟩,
    fun _ => completeStep_of_unknown⟩

/-- Settles O6: a step is a reset, a held or a new host transaction, a completion, or a wait, and each has a next state. -/
theorem everyStepAnswersNext : Obligations.EveryStepAnswersNext := exists_step_next

end Sys2Proof.Proofs
end

section
/-! SUPPORT. The two resets in the terms of the statements (spec/70_reset_and_hazards.md R310 to R313), the turns of an idle
block (R314), and that only one command reads GAMMA (R322). -/

namespace Sys2Proof.Machine

open Sys2Proof.Safety

/-! ### The registers after a reset (R310, R311) -/

/-- No register reads pixel memory, the hold or the model's own fields (R36, R141). -/
theorem regValueAt_ignores_ports (s : State) (off : Word) (m : Memory) (h : Option BusRequest) (ts : List Turn)
    (rs : List BusResponse) (n : Nat) :
    regValueAt { s with pix := m, held := h, turns := ts, responses := rs, draws := n } off = regValueAt s off := by
  unfold regValueAt
  cases regAt off with
  | none => rfl
  | some r => cases r <;> rfl

theorem regValueAt_softReset (s : State) (off : Word) :
    regValueAt s.softReset off = regValueAt (State.powerOn s.cfg) off :=
  regValueAt_ignores_ports (State.powerOn s.cfg) off _ _ _ _ _

/-- The state `t` is as after power-on in the registers, in what R310 lists beside them and in the hold. -/
structure ResetDone (s t : State) : Prop where
  registers : ∀ off, regValueAt t off = regValueAt (State.powerOn s.cfg) off
  flags : t.busy = false ∧ t.done = false ∧ t.err = false ∧ t.wign = false
  status : t.errCode = 0 ∧ t.errInfo = 0 ∧ t.cmdLast = 0 ∧ t.cmdCount = 0
  irqEn : t.ctrlIrqEn = false
  lutValid : ∀ k, (h : k < 256) → t.lutValid[k] = false
  lutAllValid : t.lutAllValid = false
  lut : t.lut = s.cfg.initLut
  held : t.held = none

theorem resetDone_hardReset (s : State) : ResetDone s s.hardReset := by
  obtain ⟨m, n, h⟩ := hardReset_eq s
  rw [h]
  exact ⟨fun off => regValueAt_ignores_ports (State.powerOn s.cfg) off m none s.turns s.responses n,
    ⟨rfl, rfl, rfl, rfl⟩, ⟨rfl, rfl, rfl, rfl⟩, rfl, fun _ hk => Vector.getElem_replicate hk,
    lutAllValid_powerOn s.cfg, rfl, rfl⟩

/-! ### Pixel memory over a hard reset (R312) -/

/-- A hard reset keeps every byte that does not lie in the destination region of a running command whose checks pass. -/
theorem readPix_hardReset {s : State} {a : Nat}
    (h : ∀ i, s.busy = true → decode s.cmdLast = some i → validate i s = none → ¬InDestination s i a) :
    s.hardReset.readPix a = s.readPix a := by
  obtain hp | ⟨i, f, hb, hd, hv, hp⟩ := hardReset_pix s
  · exact readPix_congr (hardReset_cfg s) hp a
  · rw [State.readPix, hardReset_cfg, hp, memRead_fillRegion]
    exact if_neg (h i hb hd hv)

/-! ### GAMMA (R322) -/

/-- No check reads GAMMA, and no effect but that of LUT.GAMMA does. -/
theorem ignores_gamma {i : Instr} (hi : i ≠ .lutGamma) (s : State) (g : Word) :
    validate i { s with gamma := g } = validate i s ∧
      effect i { s with gamma := g } = { effect i s with gamma := g } := by
  cases i with
  | lutGamma => exact absurd rfl hi
  | nop | lutNeg | lutLog | lutApply | gray | rsNearest | rsBilinear | addrRaw | addrClamp => exact ⟨rfl, rfl⟩

/-! ### The invariant after power-on (R313) -/

theorem machineInv_powerOn (c : Config) : MachineInv (State.powerOn c) :=
  ⟨empty_wf c, .inl ⟨rfl, rfl⟩, .inl ⟨rfl, rfl, rfl⟩, Nat.succ_pos _, nofun⟩

/-! ### The turns of an idle block (R314) -/

section
variable {s : State} (hb : s.busy = false) (hr : s.held = none)
include hb hr

theorem step_empty_idle (h : s.turns = []) : step s = .next s := by
  rw [step_takeTurn hr (by simp [h]), takeTurn, h]
  simp [hb]

theorem step_engine_idle {ts : List Turn} (h : s.turns = .engine :: ts) : step s = .next (s.setTurns ts) := by
  rw [step_takeTurn hr (by simp [h]), takeTurn, h]
  simp [hb]

theorem step_statusWrite_idle {d : Word} {ts : List Turn} (h : s.turns = .statusWriteAtCompletion d :: ts) :
    step s = .next (((s.setTurns ts).clearStatus d).respond .okayWrite) := by
  rw [step_takeTurn hr (by simp [h]), takeTurn, h]
  simp [hb]

end

end Sys2Proof.Machine
end

section
/-! The statements about resets and hazards of spec/70_reset_and_hazards.md. -/

namespace Sys2Proof.Proofs

open Sys2Proof.Machine Sys2Proof.Safety

/-- Settles O11: a hard reset is the power-on state but for pixel memory and the ports, and it touches pixel memory only
while a command runs. -/
theorem hardResetLeavesTheResetState : Obligations.HardResetLeavesTheResetState := by
  intro s ts hts
  obtain ⟨hregs, ⟨hbusy, hdone, herr, hwign⟩, ⟨hcode, hinfo, hlast, hcount⟩, hirq, hvalid, hall, hlut, hheld⟩ :=
    resetDone_hardReset (s.setTurns ts)
  refine ⟨_, step_hardReset hts, fun off _ _ => hregs off, hbusy, hdone, herr, hwign, hcode, hinfo, hlast, hcount, hirq,
    irq_eq_false_of_disabled hirq, hvalid, hall, hlut, hheld, fun hidle a => ?_⟩
  refine readPix_hardReset (s := s.setTurns ts) fun i hrunning => ?_
  exact absurd (hidle.symm.trans hrunning) nofun

/-- Settles O12: each of the three clauses says that the byte lies in no destination region of a running command whose
checks pass. -/
theorem hardResetDuringACommandIsConfined : Obligations.HardResetDuringACommandIsConfined := by
  intro s ts hts _
  obtain ⟨-, ⟨hbusy, hdone, herr, -⟩, ⟨-, -, -, hcount⟩, -⟩ := resetDone_hardReset (s.setTurns ts)
  have hkept : ∀ a, (∀ i, decode s.cmdLast = some i → validate i s = none → ¬InDestination s i a) →
      (s.setTurns ts).hardReset.readPix a = s.readPix a := fun a ha =>
    readPix_hardReset (s := s.setTurns ts) fun i _ => ha i
  refine ⟨_, step_hardReset hts, hdone, herr, hcount, hbusy, fun i hi a ha => hkept a fun j hj _ => ?_,
    fun i hi hfails a => hkept a fun j hj hpass => ?_, fun hnone a => hkept a fun j hj => ?_⟩
  · obtain rfl := Option.some.inj (hi.symm.trans hj)
    exact ha
  · obtain rfl := Option.some.inj (hi.symm.trans hj)
    exact absurd hpass hfails
  · exact absurd (hnone.symm.trans hj) nofun

/-- Settles O13: CTRL is the register at 0x08; its write with SRST is the soft reset while BUSY = 0 and raises WIGN while
BUSY = 1. -/
theorem softResetKeepsPixelMemory : Obligations.SoftResetKeepsPixelMemory := by
  intro s d hd
  refine ⟨fun hb => ?_, fun hb => ?_⟩
  · have hwrite : s.hostTransaction (regRequest 0x08 (.write d)) = answered s.softReset .okayWrite := by
      rw [← writeCtrl_reset s hd]
      exact hostTransaction_write_offset hb d .ctrl
    exact ⟨_, hwrite, fun off _ _ => regValueAt_softReset s off,
      fun _ hk => Vector.getElem_replicate hk, rfl, fun _ => rfl, rfl⟩
  · obtain ⟨hignored, -⟩ := writesWhileBusyAreIgnored s 0x08 d hb (regOffset_offset .ctrl)
    exact hignored (by decide)

/-- Settles O40: neither the checks nor the effect of such a command read GAMMA. -/
theorem gammaIsReadOnlyByLutGamma : Obligations.GammaIsReadOnlyByLutGamma := by
  intro i s t g hi h
  obtain ⟨hvalidate, heffect⟩ := ignores_gamma hi s g
  obtain ⟨e, hv, rfl⟩ | ⟨hv, rfl⟩ := exec_cases h
  · exact exec_of_error (hvalidate.trans hv)
  · rw [exec_of_ok (hvalidate.trans hv), heffect]
    rfl

/-- Settles O8: nothing is listed in pixel memory, nothing is held, and the registers the invariant speaks of are 0. -/
theorem invariantHoldsAtPowerOn : Obligations.InvariantHoldsAtPowerOn :=
  ⟨machineInv_powerOn, machineInv_powerOn Config.platform⟩

/-- Settles O60: the three turns that can find the block idle; the STATUS write among them is that of the host. -/
theorem idleBlockWaits : Obligations.IdleBlockWaits := by
  intro s hb hheld
  refine ⟨step_empty_idle hb hheld, fun ts => step_engine_idle hb hheld, fun d ts hts => ?_⟩
  have hwrite : (s.setTurns ts).hostTransaction (regRequest 0x0C (.write d)) = _ :=
    hostTransaction_write_offset (s := s.setTurns ts) hb d .status
  exact (step_statusWrite_idle hb hheld hts).trans (congrArg Host.Outcome.next hwrite.symm)

end Sys2Proof.Proofs
end
